-- ==== Sys2Proof/Word.lean ====
section
/-! DEFINITION. The words software sees through the window (spec/11 R182): bytes, 16-bit and 32-bit values, low byte first. -/

namespace Sys2Proof

/-- One location of the window. -/
abbrev Byte := BitVec 8

/-- A 16-bit value: an address, a generation, a sequence number, a progress code, a time field. -/
abbrev Word := BitVec 16

/-- A 32-bit value: the uptime counter and every timestamp. -/
abbrev Dword := BitVec 32

/-- Nodes 0 to 31: rails 0 to 23, gates 24 to 31 (R1). -/
abbrev NodeId := Fin 32

/-- Rails 0 to 23, the nodes with a PG input (R1). -/
abbrev RailId := Fin 24

/-- A rail as a node of the table. -/
def railNode (r : RailId) : NodeId := ⟨r.val, by omega⟩

/-- Every node id, lowest first. -/
def allNodes : List NodeId := List.finRange 32

/-- Every rail id, lowest first. -/
def allRails : List RailId := List.finRange 24

/-- Every wake entry index, lowest first. -/
def allEntries : List (Fin 16) := List.finRange 16

end Sys2Proof
end

