-- ==== Sys2Proof/Syntax.lean ====
section
/-! DEFINITION. The commands of the block: one constructor per row of spec/opcode_table.json, in the table's order. -/

namespace Sys2Proof

/-- The two ports (spec/11): Host Port (SPI, HPORT) and Management Port (I2C, MPORT). -/
inductive Port where
  | host | mgmt
  deriving DecidableEq, Repr

/-- What the first three bytes of a Host Port frame say: byte 0 the direction, bytes 1 and 2 the address, high byte first (R173). -/
structure FrameHeader where
  direction : Byte
  address : Word
  deriving DecidableEq, Repr

/-- The rows of the table. A mailbox command is the write of its code to the command byte of port `p` (R178, R179). -/
inductive Instr where
  /-- R169; the strap levels are latched if the start comes at once. -/
  | standbyPowerArrival (adr1 adr0 : Bool)
  /-- R168; `vbat`: whether VBAT is present at the loss (log 17). -/
  | standbyPowerLoss (vbat : Bool)
  /-- R164 -/
  | vbatLoss
  /-- R168 -/
  | nrstFall
  /-- R168, R169; the straps latched by the start. -/
  | nrstRelease (adr1 adr0 : Bool)
  /-- R170, R171 -/
  | loadCompletion
  /-- R169 -/
  | uptimeWrap
  /-- R24; the new level of PGn. -/
  | pgChange (rail : RailId) (high : Bool)
  /-- R24 -/
  | goodTaken (rail : RailId)
  /-- R24 -/
  | goodFalls (rail : RailId)
  /-- R26, R27 -/
  | riseTimerExpiry (node : NodeId)
  /-- R28 -/
  | settleHoldExpiry (node : NodeId)
  /-- R32, R33 -/
  | fallTimerExpiry (rail : RailId)
  /-- R66 -/
  | recycleHoldExpiry
  /-- R91; the new level of PBTN, high when released. -/
  | pbtnChange (high : Bool)
  /-- R92 -/
  | press
  /-- R92 -/
  | release
  /-- R94 -/
  | longPress
  /-- R95 -/
  | idleTimerExpiry
  /-- R124; the new level of the line. -/
  | wakeLineChange (line : Fin 16) (high : Bool)
  /-- R124; entries whose intervals end at the same event go with the named one (R128, log 10). -/
  | wakeDebounceExpiry (entry : Fin 16)
  /-- R144 -/
  | deadlineExpiry
  /-- R135 -/
  | postLowByte (value : Byte)
  /-- R135 -/
  | post (high : Byte)
  /-- R76 -/
  | submit (p : Port)
  /-- R85 -/
  | cancel (p : Port)
  /-- R89 -/
  | ackCompletion (p : Port)
  /-- R118 -/
  | ackFault (p : Port)
  /-- R131 -/
  | clearWake (p : Port)
  /-- R154 -/
  | commit (p : Port)
  /-- R160 -/
  | store (p : Port)
  /-- R160; whether the CRC-16 recomputed over the target bank matches (log 15). -/
  | storeCompletion (crcMatches : Bool)
  /-- R114 -/
  | clearFaults (p : Port)
  /-- R111 -/
  | clearHalt (p : Port)
  /-- R140 -/
  | monitorOn (p : Port)
  /-- R140 -/
  | monitorOff (p : Port)
  /-- R150 -/
  | setBsel (p : Port)
  /-- R77 -/
  | hostLock (p : Port)
  /-- R167 -/
  | clearRetained (p : Port)
  /-- R179; a code that names no command. -/
  | unknownCommand (p : Port) (code : Byte)
  /-- R180; a byte written to 0x0042 (`high` false) or 0x0043 (`high` true). -/
  | causeAcknowledge (p : Port) (high : Bool) (value : Byte)
  /-- R181; a byte written to 0x0044 (`high` false) or 0x0045 (`high` true). -/
  | maskWrite (p : Port) (high : Bool) (value : Byte)
  /-- R177; a byte written to any other location. -/
  | registerWrite (p : Port) (addr : Word) (value : Byte)
  /-- R177 -/
  | forbiddenRead (p : Port) (addr : Word)
  /-- R176; `sent`: bytes the read phase sent since the port's last row (log 9). -/
  | busTimeout (sent : Word)
  /-- R173; `header`: the frame's bytes 0 to 2, which have no row of their own; none in a frame that ends before byte 2 is complete (log 8). -/
  | frameStart (header : Option FrameHeader := none)
  /-- R173 -/
  | frameEnd
  /-- R175 -/
  | registerPointerSet (addr : Word)
  /-- R175; `sent`: bytes the read phase sent since the port's last row (log 9). -/
  | transferStop (sent : Word)
  deriving DecidableEq, Repr

end Sys2Proof
end

