-- ==== Sys2Proof/Machine/Access.lean ====
section
/-! DEFINITION. The window's areas as the access classes name them (spec/11 R177, R179, R182): which locations have a row of their own, which each port may write, which reads are forbidden. -/

namespace Sys2Proof

/-- The codes that name a command (R179). -/
def commandCodes : List Byte :=
  [0x01, 0x02, 0x03, 0x04, 0x05, 0x10, 0x11, 0x12, 0x13, 0x14, 0x15, 0x16, 0x17, 0x18]

/-- Locations whose byte write has a row of its own: command byte, cause acknowledge, mask and, on the Host Port, the post location. -/
def hasOwnRow (p : Port) (addr : Word) : Bool :=
  addr == 0x0020 || (0x0042 ≤ addr.toNat && addr.toNat ≤ 0x0045) ||
    (decide (p = .host) && (addr == 0x0100 || addr == 0x0101))

/-- Reads the access classes forbid: the Host Port at the staged set (R177). The unmapped bytes 0x0781-0x078F of the plan area read as any unmapped byte. -/
def readForbidden (p : Port) (addr : Word) : Bool :=
  decide (p = .host) &&
    ((0x0400 ≤ addr.toNat && addr.toNat ≤ 0x05FF) || (0x06A0 ≤ addr.toNat && addr.toNat ≤ 0x06EF) ||
      addr == 0x0780 || (0x0790 ≤ addr.toNat && addr.toNat ≤ 0x07FF) ||
      (0x0820 ≤ addr.toNat && addr.toNat ≤ 0x082E))

/-- The first address at or after `a`, wrapping, that the Host Port may not read (R172, R177). -/
def nextForbidden (a : Word) : Word :=
  let n := a.toNat
  if n < 0x0400 then 0x0400
  else if n ≤ 0x05FF then a
  else if n < 0x06A0 then 0x06A0
  else if n ≤ 0x06EF then a
  else if n ≤ 0x0780 then 0x0780
  else if n < 0x0790 then 0x0790
  else if n ≤ 0x07FF then a
  else if n < 0x0820 then 0x0820
  else if n ≤ 0x082E then a
  else 0x0400

/-- The mailbox argument bytes of a port (R182). -/
def isArgument (addr : Word) : Bool := 0x0010 ≤ addr.toNat && addr.toNat ≤ 0x001F

/-- Staged locations the Management Port may write: bytes 0-14 of a node record, wake entries, the plan's mapped bytes, the policy fields (R177). -/
def isStaged (addr : Word) : Bool :=
  (0x0400 ≤ addr.toNat && addr.toNat ≤ 0x05FF && addr.toNat % 16 != 15) ||
    (0x06A0 ≤ addr.toNat && addr.toNat ≤ 0x06EF) || addr == 0x0780 ||
    (0x0790 ≤ addr.toNat && addr.toNat ≤ 0x07FF) || (0x0820 ≤ addr.toNat && addr.toNat ≤ 0x082E)

end Sys2Proof
end

