-- ==== Sys2Proof/Config.lean ====
section
/-! DEFINITION. What a configuration set is (spec/09 R151, spec/11 section 11.7), the model's loop bounds and the free values. Blank values and readers stand in Machine/ConfigSets.lean. The fields are the raw bytes of the window's layouts, because a staged write is stored exactly as written (R1, R151). -/

namespace Sys2Proof

/-- The four ordered platform levels (00_scope section 7). -/
inductive Level where
  | deep | standby | park | run
  deriving DecidableEq, Repr

/-- Position in DEEP < STANDBY < PARK < RUN; also the window's encoding (R182). -/
def Level.rank : Level → Nat
  | .deep => 0
  | .standby => 1
  | .park => 2
  | .run => 3

/-- A node record, bytes 0 to 14 of its layout (spec/01 R2; spec/11 "Node record"). -/
structure NodeRecord where
  /-- byte 0: 0 UNUSED, 1 STANDBY, 2 PARK, 3 RUN -/
  level : Byte
  /-- bytes 1-4: prerequisite slots, 0xFF empty -/
  slots : Vector Byte 4
  /-- byte 5: good_mode, drive, active, on_fault -/
  flags : Byte
  weight : Byte
  priority : Byte
  retries : Byte
  riseTime : Word
  settleHold : Word
  fallTime : Word
  deriving DecidableEq, Repr

/-- A wake entry, bytes 0 to 4 of its layout (spec/07 R121; spec/11 "Wake entry"). -/
structure WakeEntry where
  /-- byte 0: enabled, sense, debounce -/
  control : Byte
  line : Byte
  armed : Byte
  target : Byte
  notify : Byte
  deriving DecidableEq, Repr

/-- A stage slot of a checkpoint plan (spec/08 R137). -/
structure Stage where
  lo : Word
  hi : Word
  deadline : Word
  action : Byte
  deriving DecidableEq, Repr

/-- A checkpoint plan: a stage count and 16 slots (spec/08 R137). -/
structure Plan where
  count : Byte
  stages : Vector Stage 16
  deriving DecidableEq, Repr

/-- A policy record: field i of R152 is the i-th field here. -/
structure Policy where
  budget : Byte
  goodFilter : Byte
  tripLevel : Byte
  resumePolicy : Byte
  buttonDebounce : Byte
  longPress : Byte
  buttonFloor : Byte
  autoDeepDelay : Byte
  autoDeepUnit : Byte
  hostTargets : Byte
  hostNode : Byte
  recycleHold : Byte
  monitorDefault : Byte
  recoveryLimit : Byte
  alternateAllowed : Byte
  deriving DecidableEq, Repr

/-- A configuration set: its four parts (R151). -/
structure ConfigSet where
  nodes : Vector NodeRecord 32
  wake : Vector WakeEntry 16
  plan : Plan
  policy : Policy
  deriving DecidableEq, Repr

/-- Bound on the moves of one event (log 22): settles, takes, repairs and grants. -/
def Config.moveFuel : Nat := 400

/-- Bound on the rounds in which the node controllers come to a standstill (log 22). -/
def Config.roundFuel : Nat := 100

/-- FREE VALUE (log 15): the generation held by a bank whose STORE is running, was cut short or failed. -/
opaque Config.tornGeneration : Nat → Word

/-- FREE VALUE (log 20): what a window location shows of a record that is absent, where no rule says. -/
opaque Config.absentByte : Word → Byte

end Sys2Proof
end

