-- ==== Sys2Proof/Machine/ConfigSets.lean ====
section
/-! DEFINITION. Blank configuration parts (R13, R121, R137, R152, R163) and how the blocks read a configuration set's fields (R2, R5, R121, R137, R152; spec/11 section 11.7). A byte no encoding names is read as log 23 says; the active set never holds one (R151). -/

namespace Sys2Proof

/-- The blank record of a rail (R13): PUSH_PULL, HIGH, SENSED, TRIP. -/
def NodeRecord.blankRail : NodeRecord :=
  { level := 0, slots := Vector.replicate 4 0xFF, flags := 0x04, weight := 1, priority := 2, retries := 0,
    riseTime := 100, settleHold := 10, fallTime := 100 }

/-- The blank record of a gate (R13): OPEN_DRAIN, LOW, TIMED, TRIP. -/
def NodeRecord.blankGate : NodeRecord :=
  { NodeRecord.blankRail with flags := 0x03 }

/-- A blank wake entry: line WKn for entry n, all else 0 (R121). -/
def WakeEntry.blank (n : Fin 16) : WakeEntry :=
  { control := 0, line := BitVec.ofNat 8 n.val, armed := 0, target := 0, notify := 0 }

/-- A blank plan: no stage; slots hold deadline 100 and NOTE (R137). -/
def Plan.blank : Plan :=
  { count := 0, stages := Vector.replicate 16 { lo := 0, hi := 0, deadline := 100, action := 0 } }

/-- The default policy record (R152). -/
def Policy.default : Policy :=
  { budget := 16, goodFilter := 2, tripLevel := 1, resumePolicy := 1, buttonDebounce := 16, longPress := 4,
    buttonFloor := 1, autoDeepDelay := 0, autoDeepUnit := 0, hostTargets := 0x0E, hostNode := 0xFF,
    recycleHold := 10, monitorDefault := 0, recoveryLimit := 2, alternateAllowed := 0 }

/-- The empty set (R163). -/
def ConfigSet.empty : ConfigSet :=
  { nodes := Vector.ofFn fun n : Fin 32 => if n.val < 24 then NodeRecord.blankRail else NodeRecord.blankGate
    wake := Vector.ofFn WakeEntry.blank
    plan := Plan.blank
    policy := Policy.default }

/-- A byte of a level field as used by a node or wake entry: 1 STANDBY, 2 PARK, 3 RUN; else none (UNUSED, NONE). -/
def levelOfByte (b : Byte) : Option Level :=
  if b = 1 then some .standby else if b = 2 then some .park else if b = 3 then some .run else none

/-- DEEP or STANDBY, the encoding of the trip level and the button floor (spec/11 "Policy encodings"); a byte above 1 reads as STANDBY (log 23). -/
def lowLevelOfByte (b : Byte) : Level := if b = 0 then .deep else .standby

/-- L1 is below L2. -/
def Level.below (a b : Level) : Bool := a.rank < b.rank

/-- The record's level; none is UNUSED (R3, R4). -/
def NodeRecord.levelOf (r : NodeRecord) : Option Level := levelOfByte r.level

/-- The node takes part in sequencing. -/
def NodeRecord.used (r : NodeRecord) : Bool := r.levelOf.isSome

/-- Membership of a platform level (R3). -/
def NodeRecord.memberOf (r : NodeRecord) (L : Level) : Bool :=
  match r.levelOf with
  | some l => l.rank ≤ L.rank
  | none => false

/-- good_mode is TIMED (byte 5 bit 0). -/
def NodeRecord.timed (r : NodeRecord) : Bool := r.flags.getLsbD 0

/-- drive is OPEN_DRAIN (byte 5 bit 1). -/
def NodeRecord.openDrain (r : NodeRecord) : Bool := r.flags.getLsbD 1

/-- active is HIGH (byte 5 bit 2). -/
def NodeRecord.activeHigh (r : NodeRecord) : Bool := r.flags.getLsbD 2

/-- on_fault is SHED (byte 5 bit 3). -/
def NodeRecord.sheds (r : NodeRecord) : Bool := r.flags.getLsbD 3

/-- A slot value as a node id (R5); empty slots and values that are no id give none. -/
def nodeOfByte (b : Byte) : Option NodeId :=
  if h : b.toNat < 32 then some ⟨b.toNat, h⟩ else none

/-- The prerequisite list: the ids of the filled slots, in slot order (R5). -/
def NodeRecord.prereqs (r : NodeRecord) : List NodeId := r.slots.toList.filterMap nodeOfByte

/-- Nodes 24 to 31 (R1). -/
def isGate (n : NodeId) : Bool := 24 ≤ n.val

/-- The node is a SENSED rail; a gate has nothing to sense (R7). -/
def NodeRecord.senses (r : NodeRecord) (n : NodeId) : Bool := !isGate n && !r.timed

/-- The node record of `n`. -/
def ConfigSet.node (c : ConfigSet) (n : NodeId) : NodeRecord := c.nodes[n]

/-- The dependents of `n`: the used nodes that list it (R6). -/
def ConfigSet.dependents (c : ConfigSet) (n : NodeId) : List NodeId :=
  allNodes.filter fun m => (c.node m).used && (c.node m).prereqs.contains n

/-- The dependents of a set that are not in it. -/
def ConfigSet.newDependents (c : ConfigSet) (found : List NodeId) : List NodeId :=
  allNodes.filter fun m => (c.node m).used && !found.contains m && (c.node m).prereqs.any found.contains

/-- Adds the dependents of a set until none is new (R6); 32 rounds reach them all. -/
def ConfigSet.closeDependents (c : ConfigSet) : Nat → List NodeId → List NodeId
  | 0, found => found
  | k + 1, found =>
    if (c.newDependents found).isEmpty then found else c.closeDependents k (found ++ c.newDependents found)

/-- The transitive dependents of a node (R6). -/
def ConfigSet.transitiveDependents (c : ConfigSet) (n : NodeId) : List NodeId :=
  c.closeDependents 32 (c.dependents n)

/-- The recycle exclusion set: the used RUN gates and their transitive dependents (R63). -/
def ConfigSet.exclusionSet (c : ConfigSet) : List NodeId :=
  c.closeDependents 32 (allNodes.filter fun n => isGate n && decide ((c.node n).levelOf = some .run))

/-- A wake entry is enabled (byte 0 bit 0). -/
def WakeEntry.enabled (e : WakeEntry) : Bool := e.control.getLsbD 0

/-- Sense code, byte 0 bits 1-2: 0 RISING, 1 FALLING, 2 HIGH, 3 LOW. -/
def WakeEntry.sense (e : WakeEntry) : Nat := (e.control.toNat / 2) % 4

/-- HIGH and LOW are level senses (R121). -/
def WakeEntry.levelSense (e : WakeEntry) : Bool := 2 ≤ e.sense

/-- The direction that matches: true for RISING and HIGH, false for FALLING and LOW (R125). -/
def WakeEntry.matchesHigh (e : WakeEntry) : Bool := e.sense % 2 = 0

/-- Debounce in ms, byte 0 bits 3-4: 0, 1, 8, 64. -/
def WakeEntry.debounce (e : WakeEntry) : Nat :=
  match (e.control.toNat / 8) % 4 with
  | 0 => 0
  | 1 => 1
  | 2 => 8
  | _ => 64

/-- The entry watches this line. -/
def WakeEntry.onLine (e : WakeEntry) (line : Fin 16) : Bool := e.line.toNat = line.val

/-- The level lies in the armed set (R126). -/
def WakeEntry.armedAt (e : WakeEntry) (L : Level) : Bool := e.armed.getLsbD L.rank

/-- The level a match asks for; none is NONE (R121). -/
def WakeEntry.targetOf (e : WakeEntry) : Option Level := levelOfByte e.target

/-- HPORT is in the notify set. -/
def WakeEntry.notifiesHost (e : WakeEntry) : Bool := e.notify.getLsbD 0

/-- MPORT is in the notify set. -/
def WakeEntry.notifiesMgmt (e : WakeEntry) : Bool := e.notify.getLsbD 1

/-- The stages of a plan: the first stage-count slots (R137). -/
def Plan.active (p : Plan) : List Stage := p.stages.toList.take p.count.toNat

/-- A code belongs to a stage (R137). -/
def Stage.holds (g : Stage) (code : Word) : Bool := g.lo.toNat ≤ code.toNat && code.toNat ≤ g.hi.toNat

/-- The stage's deadline in ms (R137: units of 10 ms). -/
def Stage.deadlineMs (g : Stage) : Nat := 10 * g.deadline.toNat

/-- The host I/O node, or none for NONE (R152). -/
def Policy.hostNodeOf (p : Policy) : Option NodeId := nodeOfByte p.hostNode

/-- The level lies in the host target set (R77). -/
def Policy.hostMayAsk (p : Policy) (L : Level) : Bool := p.hostTargets.getLsbD L.rank

/-- The recycle hold in ms (R65). -/
def Policy.recycleHoldMs (p : Policy) : Nat := 10 * p.recycleHold.toNat

/-- The long-press time in ms (R94). -/
def Policy.longPressMs (p : Policy) : Nat := 1000 * p.longPress.toNat

/-- The idle timer's length in ms: the delay in seconds or minutes (R95). -/
def Policy.autoDeepMs (p : Policy) : Nat :=
  p.autoDeepDelay.toNat * (if p.autoDeepUnit = 0 then 1000 else 60000)

end Sys2Proof
end

