-- ==== Sys2Proof/Machine/State.lean ====
section
/-! DEFINITION. The state of the SQ24: every piece of state of spec/01 to spec/11 as plain data, grouped by the block that owns it, the queue of waiting commands, and the state right after the start event of a new board. -/

namespace Sys2Proof.Machine

/-- Why the machine stops. The spec names no event that stops the part (INVENTORY.md, Faults), so there is no reason and no fault is ever raised; safe. -/
inductive Fault
  deriving DecidableEq, Repr

/-- Why a command has no meaning. -/
inductive Refusal where
  /-- Raised only by exec's arm of a command that has no meaning yet; no arm uses it now; safe. -/
  | notModelled (mnemonic : String)
  deriving DecidableEq, Repr

/-! ### Values -/

/-- The nine node states (R19). -/
inductive NodeState where
  | off | waiting | held | ready | rising | settling | on | draining | failed
  deriving DecidableEq, Repr

/-- good_mode (R2). -/
inductive GoodMode where
  | sensed | timed
  deriving DecidableEq, Repr

/-- Platform phase (R52). -/
inductive Phase where
  | settled | rising | falling | recycling | halted
  deriving DecidableEq, Repr

/-- Leg of a gate recycle (R51). -/
inductive Leg where
  | down | hold | up
  deriving DecidableEq, Repr

/-- Request source (R74). -/
inductive Source where
  | hport | mport | button | wake | watch | resume | idle
  deriving DecidableEq, Repr

/-- Request kind (R74). -/
inductive Kind where
  | normal | forced
  deriving DecidableEq, Repr

/-- A request (R74). -/
structure Request where
  source : Source
  kind : Kind
  target : Level
  via : Option Level
  recycle : Bool
  tag : Option Byte
  alternate : Bool
  deriving DecidableEq, Repr

/-- Outcome of a request (R88). -/
inductive Ending where
  | done | noChange | superseded | cancelled | abortedByFault
  deriving DecidableEq, Repr

/-- A completion record (R88). -/
structure Completion where
  tag : Byte
  ending : Ending
  settled : Level
  degraded : Bool
  deriving DecidableEq, Repr

/-- Button state (R92). -/
inductive ButtonState where
  | locked | released | pressed | long
  deriving DecidableEq, Repr

/-- Fault kind (R97). -/
inductive FaultKind where
  | riseTimeout | goodLost | fallTimeout | backfeed | stageExpiry
  deriving DecidableEq, Repr

/-- Action of a fault record (R116). -/
inductive FaultAction where
  | retried | shed | tripped | halted | noted | warm | cold | alternate | holdOff
  deriving DecidableEq, Repr

/-- A fault record (R116). -/
structure FaultRecord where
  seq : Word
  kind : FaultKind
  node : Option NodeId
  nodeState : Option NodeState
  stage : Option Nat
  settled : Level
  phase : Phase
  target : Option Level
  action : FaultAction
  uptime : Dword
  deriving DecidableEq, Repr

/-- Monitor state (R139); k is a stage index. -/
inductive MonitorState where
  | disabled | idle | armed (k : Nat) | stalled (k : Nat) | recovering | complete
  deriving DecidableEq, Repr

/-- An entry of the progress log (R136). -/
structure ProgressEntry where
  code : Word
  uptime : Dword
  deriving DecidableEq, Repr

/-- Start cause (R168). -/
inductive StartCause where
  | standbyPower | externalReset
  deriving DecidableEq, Repr

/-- Mailbox status (R178). -/
inductive MailStatus where
  | idle | busy | done
  deriving DecidableEq, Repr

/-- Mailbox result (R179). -/
inductive Result where
  | ok | accepted | invalid | denied | busy | halted | stale | inFlight | cls | validation | liveConflict | storeFailed
  deriving DecidableEq, Repr

/-- The three detail bytes: table, index, reason (R179). -/
structure Detail where
  table : Byte
  index : Byte
  reason : Byte
  deriving DecidableEq, Repr

/-- Supply and start phase (R168 to R170). -/
inductive Power where
  /-- standby power absent -/
  | unpowered
  /-- nRST held low with standby power present -/
  | resetInterval
  /-- between the start event and the load completion event -/
  | loading
  /-- after the load completion event -/
  | running
  deriving DecidableEq, Repr

/-- The Host Port's frame (R173, R174). -/
inductive Frame where
  /-- nCS is high -/
  | none
  /-- a frame that began while the port was live and ends before its byte 2 is complete: it has no effect -/
  | opened
  /-- a write frame: the next data byte is written at `addr` -/
  | write (addr : Word)
  /-- a read frame whose turnaround byte comes next: its data begin at `addr` (allowed bytes have no row, log 9) -/
  | turnaround (addr : Word)
  /-- a read frame past its turnaround byte: `addr` is one past its last byte with a row (log 9) -/
  | read (addr : Word)
  /-- a frame ignored to its end: the port was inert at its start or during it, or its direction byte names no direction -/
  | ignored
  deriving DecidableEq, Repr

/-- An image bank (R159). -/
inductive BankId where
  | bank0 | bank1
  deriving DecidableEq, Repr

/-! ### Live records -/

/-- A filter or debounce interval that runs: where it leads and how many ms are left (R24, R91). -/
structure Interval where
  toward : Bool
  left : Nat
  deriving DecidableEq, Repr

/-- A wake entry's interval: the length read at its start is kept (R124, R132); `change` names the line change at which it began, none when it began with watching (R128, log 10). -/
structure WakeInterval where
  toward : Bool
  length : Nat
  left : Nat
  change : Option Nat
  deriving DecidableEq, Repr

/-- The live record of a node (R18), with the good_mode that a rise or fall in progress began with (R39). -/
structure NodeLive where
  state : NodeState
  rise : Option Nat
  hold : Option Nat
  fall : Option Nat
  retry : Nat
  good : Bool
  filter : Option Interval
  noted : Bool
  charge : Option Nat
  mode : Option GoodMode
  deriving DecidableEq, Repr

/-- An entry of the ready queue (R43). -/
structure ReadyEntry where
  node : NodeId
  priority : Nat
  deriving DecidableEq, Repr

/-- The platform record (R51), with the exclusion set a recycle holds (R63). -/
structure Platform where
  settled : Level
  phase : Phase
  target : Option Level
  via : Option Level
  recycle : Option Leg
  exclusion : List NodeId
  holdTimer : Option Nat
  trip : Bool
  tripped : Bool
  degraded : Bool
  inFlight : Option Request
  deriving DecidableEq, Repr

/-- The power button (R91, R92). -/
structure Button where
  state : ButtonState
  pressed : Bool
  filter : Option Interval
  longTimer : Option Nat
  deriving DecidableEq, Repr

/-- The fault unit (R98). -/
structure FaultUnit where
  log : List FaultRecord
  nextSeq : Word
  overflow : Bool
  deriving DecidableEq, Repr

/-- The live record of a wake entry (R123). -/
structure WakeLive where
  level : Option Bool
  filter : Option WakeInterval
  pending : Bool
  lastMatch : Option Dword
  deriving DecidableEq, Repr

/-- The progress supervisor (R134). -/
structure Monitor where
  state : MonitorState
  deadline : Option Nat
  recoveryCount : Nat
  skipCount : Nat
  log : List ProgressEntry
  postCount : Word
  holding : Byte
  deriving DecidableEq, Repr

/-- The retained record (R164); `checkGood`: its check matches its contents (log 16). -/
structure Retained where
  mark : Bool
  checkGood : Bool
  lastSettled : Option Level
  bsel : Bool
  firstFault : Option FaultRecord
  startCause : StartCause
  lost : Bool
  deriving DecidableEq, Repr

/-- The contents of an image bank (R159). -/
structure Bank where
  mark : Bool
  generation : Word
  image : ConfigSet
  crc : Word
  deriving DecidableEq, Repr

/-- A STORE that runs: the bank it writes and what it means to write (R160). -/
structure StoreJob where
  target : BankId
  generation : Word
  image : ConfigSet
  deriving DecidableEq, Repr

/-- A port's mailbox (R178). -/
structure Mailbox where
  args : Vector Byte 16
  command : Byte
  status : MailStatus
  result : Result
  detail : Detail
  deriving DecidableEq, Repr

/-- The input pins and the battery supply. -/
structure Inputs where
  pg : Vector Bool 24
  wk : Vector Bool 16
  pbtnHigh : Bool
  nrstHigh : Bool
  vbat : Bool
  deriving DecidableEq, Repr

/-- One of each for the two ports. -/
structure PerPort (α : Type) where
  host : α
  mgmt : α
  deriving DecidableEq, Repr

/-- The copy of port `p`. -/
def PerPort.get {α : Type} (x : PerPort α) : Port → α
  | .host => x.host
  | .mgmt => x.mgmt

/-- The pair with port `p`'s copy replaced. -/
def PerPort.set {α : Type} (x : PerPort α) (p : Port) (a : α) : PerPort α :=
  match p with
  | .host => { x with host := a }
  | .mgmt => { x with mgmt := a }

/-! ### The whole state -/

/-- Everything the spec gives the part, and the queue of the commands that wait. -/
structure State where
  inputs : Inputs
  power : Power
  /-- a start sequence has reached step 4 since standby power last arrived (R168) -/
  stepFour : Bool
  /-- the Management Port address latched at the start event (R169) -/
  address : BitVec 7
  uptime : Dword
  active : ConfigSet
  staged : ConfigSet
  bank0 : Bank
  bank1 : Bank
  loadedBank : Option BankId
  imageBad : Bool
  storeJob : Option StoreJob
  nodes : Vector NodeLive 32
  budgetInUse : Nat
  ready : List ReadyEntry
  plat : Platform
  queue : List Request
  hostLock : Bool
  button : Button
  idle : Option Nat
  faults : FaultUnit
  wakes : Vector WakeLive 16
  monitor : Monitor
  retained : Retained
  mailbox : PerPort Mailbox
  completions : PerPort (List Completion)
  causes : PerPort Word
  masks : PerPort Word
  frame : Frame
  pointer : Word
  /-- a Management Port write transfer runs: its pointer bytes have come and its STOP has not (R175, R176) -/
  transfer : Bool
  /-- the model's own: how many line changes there have been, the name of the next one (log 10) -/
  lineChanges : Nat
  /-- the model's own: advances with each free value read (log 15) -/
  freeCount : Nat
  /-- the model's own: the commands that wait, first in, first out -/
  pending : List Instr
  deriving DecidableEq, Repr

/-! ### Start values -/

/-- A node's live record at start (R18). -/
def NodeLive.start : NodeLive :=
  { state := .off, rise := none, hold := none, fall := none, retry := 0, good := false, filter := none,
    noted := false, charge := none, mode := none }

/-- The platform record at start (R51). -/
def Platform.start : Platform :=
  { settled := .deep, phase := .settled, target := none, via := none, recycle := none, exclusion := [],
    holdTimer := none, trip := false, tripped := false, degraded := false, inFlight := none }

/-- The button at start (R91, R92). -/
def Button.start : Button := { state := .locked, pressed := true, filter := none, longTimer := none }

/-- The fault unit at start (R98). -/
def FaultUnit.start : FaultUnit := { log := [], nextSeq := 0, overflow := false }

/-- A wake entry's live record before it is watched (R123). -/
def WakeLive.start : WakeLive := { level := none, filter := none, pending := false, lastMatch := none }

/-- The supervisor at start, in the monitor state given (R134). -/
def Monitor.start (st : MonitorState) : Monitor :=
  { state := st, deadline := none, recoveryCount := 0, skipCount := 0, log := [], postCount := 0, holding := 0 }

/-- A mailbox at start (R178). -/
def Mailbox.start : Mailbox :=
  { args := Vector.replicate 16 0, command := 0, status := .idle, result := .ok, detail := ⟨0, 0, 0⟩ }

/-- A bank that has never been stored (R159; contents log 2). -/
def Bank.neverStored : Bank := { mark := false, generation := 0, image := ConfigSet.empty, crc := 0 }

/-- The state right after the start event of a new board: standby power has arrived, nRST is high, the image load runs (log 1). The spec gives no value for the input pins, nCS among them (frame none: no Host Port frame in progress), nor for the sets and banks; they are the model's choice (log 2). -/
def State.reset : State :=
  { inputs := { pg := Vector.replicate 24 false, wk := Vector.replicate 16 false, pbtnHigh := true,
                nrstHigh := true, vbat := true }
    power := .loading
    stepFour := false
    address := 0x4C
    uptime := 0
    active := ConfigSet.empty
    staged := ConfigSet.empty
    bank0 := Bank.neverStored
    bank1 := Bank.neverStored
    loadedBank := none
    imageBad := false
    storeJob := none
    nodes := Vector.replicate 32 NodeLive.start
    budgetInUse := 0
    ready := []
    plat := Platform.start
    queue := []
    hostLock := false
    button := Button.start
    idle := none
    faults := FaultUnit.start
    wakes := Vector.replicate 16 WakeLive.start
    monitor := Monitor.start .disabled
    retained := { mark := false, checkGood := false, lastSettled := none, bsel := false, firstFault := none,
                  startCause := .standbyPower, lost := true }
    mailbox := ⟨Mailbox.start, Mailbox.start⟩
    completions := ⟨[], []⟩
    causes := ⟨0, 0⟩
    masks := ⟨0, 0⟩
    frame := .none
    pointer := 0
    transfer := false
    lineChanges := 0
    freeCount := 0
    pending := [] }

end Sys2Proof.Machine
end

