-- ==== Sys2Proof/Machine/Flags.lean ====
section
/-! DEFINITION. Conditions computed from the state, never stored: energized and live conditions, governing and reference level, conformance and degraded, the cause sets and attention lines, the output pins (R12, R19, R38, R53, R57, R59, R150, R166, R174, R180, R181). -/

namespace Sys2Proof.Machine

/-! ### Nodes and levels -/

/-- The energized states (R19). -/
def NodeState.energized : NodeState → Bool
  | .rising | .settling | .on => true
  | _ => false

/-- The live record of a node. -/
def State.node (s : State) (n : NodeId) : NodeLive := s.nodes[n]

/-- The state of a node. -/
def State.nodeState (s : State) (n : NodeId) : NodeState := (s.node n).state

/-- The active node record of a node. -/
def State.record (s : State) (n : NodeId) : NodeRecord := s.active.node n

/-- A transition is in flight (R52). -/
def Phase.inFlight : Phase → Bool
  | .rising | .falling | .recycling => true
  | _ => false

/-- The governing level (R53); none in HALTED. -/
def Platform.governing (p : Platform) : Option Level :=
  match p.phase with
  | .settled => some p.settled
  | .halted => none
  | _ => match p.via with
    | some v => some v
    | none => p.target

/-- The reference level: the target in flight, else the settled level (R53). -/
def Platform.reference (p : Platform) : Level :=
  if p.phase.inFlight then p.target.getD p.settled else p.settled

/-- The DOWN or HOLD leg holds the exclusion set unwanted (R54). -/
def Platform.excludes (p : Platform) (n : NodeId) : Bool :=
  (p.recycle == some .down || p.recycle == some .hold) && p.exclusion.contains n

/-- A node is wanted (R54). -/
def State.wanted (s : State) (n : NodeId) : Bool :=
  s.nodeState n != .failed && !s.plat.excludes n &&
    match s.plat.governing with
    | some L => (s.record n).memberOf L
    | none => false

/-- A used node conforms to a level (R57); UNUSED nodes take no part. -/
def State.conforms (s : State) (L : Level) (n : NodeId) : Bool :=
  if !(s.record n).used then true
  else if (s.record n).memberOf L && !s.plat.excludes n then
    s.nodeState n == .on || s.nodeState n == .held || s.nodeState n == .failed
  else s.nodeState n == .off || s.nodeState n == .failed

/-- Every used node conforms to the governing level. -/
def State.allConform (s : State) : Bool :=
  match s.plat.governing with
  | some L => allNodes.all (s.conforms L)
  | none => false

/-- Some member of the level is FAILED or HELD (R59). -/
def State.degradedAt (s : State) (L : Level) : Bool :=
  allNodes.any fun n => (s.record n).memberOf L && (s.nodeState n == .failed || s.nodeState n == .held)

/-- The label of a phase with no recycle leg: the governing level against the settled level (R52). -/
def phaseLabel (governing settled : Level) : Phase :=
  if governing.below settled then .falling else .rising

/-! ### Ports -/

/-- The Host Port is live (R174). -/
def State.hostLive (s : State) : Bool :=
  s.power == .running &&
    match s.active.policy.hostNodeOf with
    | none => true
    | some n => s.nodeState n == .on

/-- A byte written at `addr` through the port reaches the part now: the Host Port is live in a write frame that has come to `addr`, SDI being ignored in every other frame (R173, R174), or the Management Port is in a write transfer with its pointer at `addr` (R175, R176). -/
def State.takesByte (s : State) (p : Port) (addr : Word) : Bool :=
  match p with
  | .host => s.hostLive && s.frame == .write addr
  | .mgmt => s.power == .running && s.transfer && s.pointer == addr

/-- Where a read frame stands (R173). -/
def Frame.readAddr : Frame → Option Word
  | .turnaround addr | .read addr => some addr
  | .none | .opened | .write _ | .ignored => Option.none

/-- The frame is taken, not ignored. -/
def Frame.taken : Frame → Bool
  | .opened | .write _ | .turnaround _ | .read _ => true
  | .none | .ignored => false

/-- A read frame that stands at `a` comes to `b` with no forbidden byte before it: the address goes up by 1, past allowed bytes that have no row (R172, R173, log 9). -/
def readReaches (a b : Word) : Bool := (b - a).toNat ≤ (nextForbidden a - a).toNat

/-- A read of a byte at `addr` through the port reaches the part now: a read frame of the live Host Port that comes to it, or the Management Port with its pointer there (R173 to R175). -/
def State.takesRead (s : State) (p : Port) (addr : Word) : Bool :=
  match p with
  | .host => s.hostLive && s.frame.readAddr.any fun a => readReaches a addr
  | .mgmt => s.power == .running && s.pointer == addr

/-! ### Causes and attention -/

/-- The ten causes (R180). -/
inductive Cause where
  | completion | fault | halt | settled | wake | button | checkpoint | mailbox | violation | overrun
  deriving DecidableEq, Repr

/-- The bit of a cause (R182). -/
def Cause.bit : Cause → Nat
  | .completion => 0
  | .fault => 1
  | .halt => 2
  | .settled => 3
  | .wake => 4
  | .button => 5
  | .checkpoint => 6
  | .mailbox => 7
  | .violation => 8
  | .overrun => 9

/-- The word with a cause's bit alone. -/
def Cause.word (c : Cause) : Word := 1#16 <<< c.bit

/-- The bits of the seven event causes. -/
def eventCauseBits : Word := 0x03F8

/-- The bits of all ten causes. -/
def causeBits : Word := 0x03FF

/-- An event cause becomes pending at a port (R180). -/
def State.raise (s : State) (p : Port) (c : Cause) : State :=
  { s with causes := s.causes.set p (s.causes.get p ||| c.word) }

/-- An event cause is raised at both ports. -/
def State.raiseBoth (s : State) (c : Cause) : State := (s.raise .host c).raise .mgmt c

/-- The level causes whose condition holds (R180). -/
def State.levelCauses (s : State) (p : Port) : Word :=
  (if (s.completions.get p).isEmpty then 0 else Cause.completion.word) |||
    (if s.faults.log.isEmpty then 0 else Cause.fault.word) |||
    (if s.plat.phase = .halted then Cause.halt.word else 0)

/-- The causes pending at a port, level and event (R180). -/
def State.pendingCauses (s : State) (p : Port) : Word :=
  (s.causes.get p &&& eventCauseBits) ||| s.levelCauses p

/-- The attention line is driven low (R181). -/
def State.attention (s : State) (p : Port) : Bool :=
  (match p with
    | .host => s.hostLive
    | .mgmt => s.power == .running) && (s.pendingCauses p &&& s.masks.get p) != 0

/-! ### Output pins -/

/-- What an output pin does. -/
inductive PinLevel where
  | high | low | highZ | unpowered
  deriving DecidableEq, Repr

/-- The pin for an output asserted or not, by drive and active (R12). -/
def pinOf (r : NodeRecord) (asserted : Bool) : PinLevel :=
  if asserted == r.activeHigh then (if r.openDrain then .highZ else .high) else .low

/-- The pin of a node that is energized or not: a rail's enable is asserted, a gate's reset released, exactly when energized (R12, R38). -/
def State.nodePin (s : State) (n : NodeId) (energized : Bool) : PinLevel :=
  pinOf (s.record n) (energized != isGate n)

/-- EN0-EN23 and RL0-RL7 (R38). -/
def State.outputPin (s : State) (n : NodeId) : PinLevel :=
  match s.power with
  | .unpowered => .unpowered
  | .loading => .highZ
  | .resetInterval => if s.stepFour then s.nodePin n false else .highZ
  | .running => s.nodePin n (s.nodeState n).energized

/-- BSEL (R150, R166): high-impedance from standby power arrival until the first step 4. -/
def State.bselPin (s : State) : PinLevel :=
  match s.power with
  | .unpowered => .unpowered
  | _ => if !s.stepFour then .highZ else if s.retained.bsel then .high else .low

/-- SDO is high-impedance: nCS high, or the port inert (R173, R174), and also in a frame that a live port ignores, by its direction byte or since it was inert, where no rule says (log 32). -/
def State.sdoHighZ (s : State) : Bool := !(s.hostLive && s.frame.taken)

/-! ### Retained record and banks -/

/-- The retained record is valid (R164). -/
def Retained.valid (r : Retained) : Bool := r.mark && r.checkGood

end Sys2Proof.Machine
end

