-- ==== Sys2Proof/Machine/NodeOps.lean ====
section
/-! DEFINITION. The node controller's and the budget arbiter's shared operations (spec/02, spec/03): timers, placement, grant, the ways down, the standstill of the local rules. -/

namespace Sys2Proof.Machine

/-- Replaces a node's live record. -/
def State.setNode (s : State) (n : NodeId) (l : NodeLive) : State :=
  { s with nodes := s.nodes.set n.val l n.isLt }

/-- A change of state clears the backfeed noted item (R37). -/
def NodeLive.goTo (l : NodeLive) (st : NodeState) : NodeLive :=
  { l with state := st, noted := l.noted && l.state == st }

/-- Every timer of the node stops. -/
def NodeLive.stopTimers (l : NodeLive) : NodeLive :=
  { l with rise := none, hold := none, fall := none }

/-- The mode a rise or fall that begins now keeps (R39). -/
def State.modeNow (s : State) (n : NodeId) : GoodMode :=
  if (s.record n).senses n then .sensed else .timed

/-! ### Budget and ready queue -/

/-- A charge is released: budget in use falls by the amount held (R47). -/
def State.release (s : State) (n : NodeId) : State :=
  match (s.node n).charge with
  | none => s
  | some w => { s.setNode n { s.node n with charge := none } with budgetInUse := s.budgetInUse - w }

/-- Puts an entry in its place: priority first, then node id (R43). -/
def insertReady (e : ReadyEntry) : List ReadyEntry → List ReadyEntry
  | [] => [e]
  | x :: xs =>
    if x.priority < e.priority || (x.priority == e.priority && x.node.val < e.node.val) then x :: insertReady e xs
    else e :: x :: xs

/-- A node joins the ready queue with the priority its record has now (R43). -/
def State.joinReady (s : State) (n : NodeId) : State :=
  { s with ready := insertReady ⟨n, (s.record n).priority.toNat⟩ s.ready }

/-- A node leaves the ready queue; the others close up (R44). -/
def State.leaveReady (s : State) (n : NodeId) : State :=
  { s with ready := s.ready.filter fun e => e.node != n }

/-! ### Placement -/

/-- Where the states of its prerequisites place a wanted node (R21). -/
def State.placement (s : State) (n : NodeId) : NodeState :=
  let ps := (s.record n).prereqs
  if ps.any fun q => s.nodeState q == .failed || s.nodeState q == .held then .held
  else if ps.any fun q => s.nodeState q != .on then .waiting
  else .ready

/-- Places a node: READY joins the queue, any other place leaves it; a READY node keeps its place (R21, R44). -/
def State.place (s : State) (n : NodeId) (st : NodeState) : State :=
  if s.nodeState n = st then s
  else
    let s := (s.leaveReady n).setNode n ((s.node n).goTo st)
    if st = .ready then s.joinReady n else s

/-! ### Going down -/

/-- A node leaves for OFF: no timer, no charge, not queued (R22, R34, R36). -/
def State.toOff (s : State) (n : NodeId) : State :=
  let s := (s.release n).leaveReady n
  s.setNode n { ((s.node n).stopTimers).goTo .off with mode := none }

/-- A rail enters DRAINING with its fall timer started from fall_time; a gate is OFF at once (R30 to R33). Its charge is released. -/
def State.drop (s : State) (n : NodeId) : State :=
  if isGate n then s.toOff n
  else
    let s := s.release n
    s.setNode n { ((s.node n).stopTimers).goTo .draining with
      fall := some (s.record n).fallTime.toNat, mode := some (s.modeNow n) }

/-- The fail action (R35). -/
def State.fail (s : State) (n : NodeId) : State :=
  let s := (s.release n).leaveReady n
  s.setNode n { ((s.node n).stopTimers).goTo .failed with mode := none }

/-- The take-down action: nothing for a node that is not energized (R35). -/
def State.takeDown (s : State) (n : NodeId) : State :=
  if (s.nodeState n).energized then s.drop n else s

/-- HALTED entry and nRST falling at the nodes: every node not FAILED is OFF, every timer and charge gone, good absent, retry counts 0, noted items clear, queue empty (R38, R40, R50). -/
def State.deenergizeAll (s : State) : State :=
  { s with
    nodes := s.nodes.map fun l =>
      { NodeLive.start with state := if l.state = .failed then .failed else .off }
    ready := []
    budgetInUse := 0 }

/-! ### Going up -/

/-- SETTLING ends: the node is ON, its charge released, its retry count 0 (R28). -/
def State.becomeOn (s : State) (n : NodeId) : State :=
  let s := s.release n
  s.setNode n { ((s.node n).stopTimers).goTo .on with retry := 0, mode := none }

/-- The rise ends: settle_hold is read and runs; with 0 the node is ON at once (R26, R28). -/
def State.enterSettling (s : State) (n : NodeId) : State :=
  let hold := (s.record n).settleHold.toNat
  let s := s.setNode n { ((s.node n).stopTimers).goTo .settling with hold := some hold, mode := none }
  if hold = 0 then s.becomeOn n else s

/-- The grant of the head: charge, rise timer, RISING; three cases end the rise at once (R25, R45). -/
def State.grant (s : State) (n : NodeId) : State :=
  let w := (s.record n).weight.toNat
  let t := (s.record n).riseTime.toNat
  let m := s.modeNow n
  let s := s.leaveReady n
  let s := { s.setNode n { (s.node n).goTo .rising with
      rise := some t, charge := some w, noted := false, mode := some m } with
    budgetInUse := s.budgetInUse + w }
  if (m == .timed && t == 0) || (m == .sensed && (s.node n).good) then s.enterSettling n else s

/-- The node the grant rule takes now: the head, when its weight fits the room (R45). -/
def State.grantable (s : State) : Option NodeId :=
  match s.ready with
  | [] => none
  | e :: _ =>
    if s.budgetInUse + (s.record e.node).weight.toNat ≤ s.active.policy.budget.toNat then some e.node else none

/-! ### The local rules, to a standstill -/

/-- What a node does on its own (R21, R22, R30, R31). -/
inductive NodeMove where
  | place (st : NodeState)
  | off
  | drop
  deriving DecidableEq, Repr

/-- An ON node is held up: a dependent is energized or DRAINING (R31). -/
def State.heldUp (s : State) (n : NodeId) : Bool :=
  (s.active.dependents n).any fun m => (s.nodeState m).energized || s.nodeState m == .draining

/-- The move a node makes now, by its state, its wanted status and its neighbours; none when it stands. -/
def State.nodeMove (s : State) (n : NodeId) : Option NodeMove :=
  match s.nodeState n with
  | .off => if s.wanted n then some (.place (s.placement n)) else none
  | .waiting | .held | .ready =>
    if !s.wanted n then some .off
    else if s.placement n = s.nodeState n then none else some (.place (s.placement n))
  | .rising | .settling => if s.wanted n then none else some .drop
  | .on => if !s.wanted n && !s.heldUp n then some .drop else none
  | .draining | .failed => none

/-- Applies a node's move. -/
def State.applyNodeMove (s : State) (n : NodeId) : NodeMove → State
  | .place st => s.place n st
  | .off => s.toOff n
  | .drop => s.drop n

/-- One node acts by its own rule. -/
def State.nodeTurn (s : State) (n : NodeId) : State :=
  match s.nodeMove n with
  | none => s
  | some m => s.applyNodeMove n m

/-- No node has a move left. -/
def State.still (s : State) : Bool := allNodes.all fun n => (s.nodeMove n).isNone

/-- The nodes act, lowest id first, round after round, until none has a move left. -/
def State.standstill : Nat → State → State
  | 0, s => s
  | k + 1, s => if s.still then s else State.standstill k (allNodes.foldl State.nodeTurn s)

end Sys2Proof.Machine
end

