-- ==== Sys2Proof/Machine/EngineOps.lean ====
section
/-! DEFINITION. The shared operations of the transition engine, the request arbiter and the progress supervisor's side of them (spec/04, spec/05, R141, R147, R148): completions, arrivals, takes, legs, settles, trips, HALTED entry, and the moves that end an event. -/

namespace Sys2Proof.Machine

/-! ### Completions -/

/-- The completion of a WATCH request: an abandoned recovery takes RECOVERING to IDLE (R148). -/
def State.watchCompletion (s : State) (e : Ending) : State :=
  if s.monitor.state = .recovering ∧ (e = .superseded ∨ e = .abortedByFault) then
    { s with monitor := { s.monitor with state := .idle } }
  else s

/-- A completion record joins a port's queue at the tail, with the settled level and degraded flag as they stand (R87, R88). -/
def State.pushCompletion (s : State) (p : Port) (tag : Option Byte) (e : Ending) : State :=
  let record : Completion := ⟨tag.getD 0, e, s.plat.settled, s.plat.degraded⟩
  { s with completions := s.completions.set p (s.completions.get p ++ [record]) }

/-- A request completes: to its port, to the supervisor, or dropped (R87). -/
def State.complete (s : State) (r : Request) (e : Ending) : State :=
  match r.source with
  | .hport => s.pushCompletion .host r.tag e
  | .mport => s.pushCompletion .mgmt r.tag e
  | .watch => s.watchCompletion e
  | .button | .wake | .resume | .idle => s

/-- The request in flight completes and is gone (R67, R69). -/
def State.completeInFlight (s : State) (e : Ending) : State :=
  match s.plat.inFlight with
  | none => s
  | some r =>
    let s := s.complete r e
    { s with plat := { s.plat with inFlight := none } }

/-- Every queued request completes ABORTED_BY_FAULT in queue order and the queue is emptied (R86). -/
def State.flushQueue (s : State) : State :=
  { s.queue.foldl (fun t r => t.complete r .abortedByFault) s with queue := [] }

/-! ### Idle timer -/

/-- The idle timer runs afresh when it was running: a request has been accepted (R95). -/
def State.restartIdle (s : State) : State :=
  if s.idle.isSome then { s with idle := some s.active.policy.autoDeepMs } else s

/-- The idle timer starts where its three conditions hold and it does not run (R95). -/
def State.startIdle (s : State) : State :=
  if s.plat.phase = .settled ∧ s.plat.settled = .standby ∧ s.active.policy.autoDeepDelay ≠ 0 ∧ s.idle.isNone then
    { s with idle := some s.active.policy.autoDeepMs }
  else s

/-! ### Reports to the supervisor -/

/-- A start report: a start that leaves RUN ends a watch (R147). The target and via are those of the platform record after the take. -/
def State.reportStart (s : State) (source : Option Source) (recycles : Bool) : State :=
  let leaves := (s.plat.target.getD s.plat.settled).below .run ||
    (s.plat.via.isSome && source != some .watch) || (recycles && source != some .watch)
  match leaves, s.monitor.state with
  | true, .armed _ | true, .stalled _ | true, .complete =>
    { s with monitor := { s.monitor with state := .idle, deadline := none } }
  | _, _ => s

/-- The RUN report arms the monitor from IDLE or RECOVERING when the plan has a stage 0 (R141); that RECOVERING stays RECOVERING with an empty plan is log 31. -/
def State.reportRun (s : State) : State :=
  match s.monitor.state, s.active.plan.active.head? with
  | .idle, some g | .recovering, some g =>
    { s with monitor := { s.monitor with state := .armed 0, deadline := some g.deadlineMs, skipCount := 0 } }
  | _, _ => s

/-! ### Starting a transition -/

/-- The label of the phase for the target, via and recycle as they stand (R52). -/
def Platform.labelled (p : Platform) : Platform :=
  { p with phase :=
      if p.recycle.isSome then .recycling
      else phaseLabel ((p.via.orElse fun _ => p.target).getD p.settled) p.settled }

/-- Sets target, via, recycle, trip and the request in flight of a new transition; the old hold timer and exclusion set are dropped, the idle timer stops (R55, R67, R69, R71, R95). -/
def State.startTransition (s : State) (target : Level) (via : Option Level) (recycles trip : Bool)
    (r : Option Request) : State :=
  { s with
    plat := Platform.labelled { s.plat with
      target := some target, via := via
      recycle := if recycles then some .down else none
      exclusion := if recycles then s.active.exclusionSet else []
      holdTimer := none, trip := trip, inFlight := r }
    idle := none }

/-- The via of a request that is effective against the platform record (R55). -/
def Request.effectiveVia (r : Request) (p : Platform) : Option Level :=
  match r.via with
  | some v => if v.below p.settled && v.below r.target then some v else none
  | none => none

/-- The recycle of a request is effective (R55). -/
def Request.effectiveRecycle (r : Request) (p : Platform) : Bool :=
  r.recycle && (r.effectiveVia p).isNone && decide (p.settled = .run)

/-- The NO_CHANGE test (R56): taken in SETTLED, at its target, with no effective option. -/
def Request.needsNoMove (r : Request) (p : Platform) : Bool :=
  decide (p.phase = .settled) && decide (r.target = p.settled) && (r.effectiveVia p).isNone && !r.effectiveRecycle p

/-- The engine takes a request (R55, R56). The overtaken request has already completed (R67, R87). -/
def State.take (s : State) (r : Request) : State :=
  if r.kind = .normal ∧ r.needsNoMove s.plat then s.complete r .noChange
  else
    let recycles := r.effectiveRecycle s.plat
    (s.startTransition r.target (r.effectiveVia s.plat) recycles false (some r)).reportStart (some r.source) recycles

/-- A repair: target the settled level, no request, not reported to the supervisor (R71). -/
def State.startRepair (s : State) : State :=
  s.startTransition s.plat.settled none false false none

/-- A trip: the request in flight, then the queue, complete ABORTED_BY_FAULT; the trip transition starts (R69, R86, R107). -/
def State.startTrip (s : State) (target : Level) : State :=
  (((s.completeInFlight .abortedByFault).flushQueue).startTransition target none false true none).reportStart none false

/-! ### Arrivals -/

/-- The queue without a source's entry. -/
def withoutSource (src : Source) (q : List Request) : List Request := q.filter fun e => e.source != src

/-- The entry of a source, completed as displaced (R80, R81, R82). -/
def State.supersedeQueued (s : State) (src : Source) : State :=
  match s.queue.find? fun e => e.source == src with
  | some e => s.complete e .superseded
  | none => s

/-- A NORMAL request joins at the tail, or replaces its source's entry in place; WAKE requests merge (R80, R81). -/
def State.enqueueNormal (s : State) (r : Request) : State :=
  match s.queue.find? fun e => e.source == r.source with
  | none => { s with queue := s.queue ++ [r] }
  | some old =>
    if r.source = .wake ∧ r.target.rank ≤ old.target.rank then s
    else
      let s := s.complete old .superseded
      { s with queue := s.queue.map fun e => if e.source == r.source then r else e }

/-- A FORCED request with trip no is taken at its arrival; the one in flight and the source's queued entry are displaced (R67, R82, R87). -/
def State.takeForced (s : State) (r : Request) : State :=
  let s := (s.completeInFlight .superseded).supersedeQueued r.source
  { s with queue := withoutSource r.source s.queue }.take r

/-- A FORCED request during a trip goes to the tail; its source's older entry is displaced (R82). -/
def State.enqueueForced (s : State) (r : Request) : State :=
  let s := s.supersedeQueued r.source
  { s with queue := withoutSource r.source s.queue ++ [r] }

/-- A request reaches the arbiter and is accepted; in HALTED an internal request is discarded (R75, R80 to R82, R95). -/
def State.arrive (s : State) (r : Request) : State :=
  if s.plat.phase = .halted then s
  else
    let s := s.restartIdle
    match r.kind with
    | .normal => s.enqueueNormal r
    | .forced => if s.plat.trip then s.enqueueForced r else s.takeForced r

/-! ### Legs and settles -/

/-- Retry counts return to 0 at every settle and via settle (R58, R61). -/
def State.clearRetries (s : State) : State :=
  { s with nodes := s.nodes.map fun l => { l with retry := 0 } }

/-- A FAILED node returns to OFF (R36). -/
def NodeLive.clearFailed (l : NodeLive) : NodeLive :=
  if l.state = .failed then l.goTo .off else l

/-- Every FAILED node returns to OFF (R36, R60, R70, R114). -/
def State.clearFailures (s : State) : State :=
  { s with nodes := s.nodes.map NodeLive.clearFailed }

/-- At a settle at DEEP failures are cleared (R60). -/
def State.clearFailuresAtDeep (s : State) : State :=
  if s.plat.settled = .deep then s.clearFailures else s

/-- A write of the retained last settled level; the check is recomputed (R164, R165). -/
def State.retainLevel (s : State) (L : Level) : State :=
  { s with retained := { s.retained with lastSettled := some L, checkGood := true } }

/-- The DOWN leg ends: HOLD, with the hold timer started (R64, R65). -/
def State.startHold (s : State) : State :=
  { s with plat := { s.plat with recycle := some .hold, holdTimer := some s.active.policy.recycleHoldMs } }

/-- The via settle (R61, R62). -/
def State.viaSettle (s : State) (via : Level) : State :=
  let flips := match s.plat.inFlight with
    | some r => r.alternate
    | none => false
  let degraded := s.degradedAt via
  let s := { s with plat := Platform.labelled { s.plat with settled := via, via := none, degraded := degraded } }
  let s := (s.retainLevel via).clearRetries.clearFailuresAtDeep
  if flips then { s with retained := { s.retained with bsel := !s.retained.bsel } } else s

/-- A settle that is not a via settle (R58 to R60, R73, R95). -/
def State.settle (s : State) (target : Level) : State :=
  let carried := s.plat.inFlight.isSome
  let degraded := s.degradedAt target
  let s := { s with plat := { s.plat with
      settled := target, phase := .settled, target := none, via := none, recycle := none, exclusion := []
      holdTimer := none, tripped := s.plat.trip, trip := false, degraded := degraded } }
  let s := (s.clearFailuresAtDeep.clearRetries.retainLevel target).raiseBoth .settled
  let s := (s.completeInFlight .done).startIdle
  if carried ∧ target = .run then s.reportRun else s

/-- HALTED entry (R40, R50, R70, R86, R109). -/
def State.enterHalted (s : State) : State :=
  let s := s.deenergizeAll.flushQueue
  { s with
    plat := { s.plat with
      phase := .halted, target := none, via := none, recycle := none, exclusion := [], holdTimer := none
      trip := false, inFlight := none }
    idle := none
    button := { s.button with state := .locked, longTimer := none } }

/-! ### The moves that end an event -/

/-- What happens next inside an event, once the nodes stand still (R45, R57, R64, R71, R72, R83; the order is log 11). -/
inductive Move where
  /-- the DOWN leg ends -/
  | startHold
  /-- the via settle -/
  | viaSettle (via : Level)
  /-- a settle -/
  | settle (target : Level)
  /-- a FORCED entry that waited for a trip -/
  | handForced (r : Request)
  /-- a repair -/
  | repair
  /-- the queue head -/
  | takeHead (r : Request)
  /-- a grant -/
  | grant (n : NodeId)
  deriving DecidableEq, Repr

/-- The DOWN leg has ended: every node of the exclusion set is OFF or FAILED (R64). -/
def State.downLegEnds (s : State) : Bool :=
  s.plat.recycle == some .down &&
    s.plat.exclusion.all fun n => s.nodeState n == .off || s.nodeState n == .failed

/-- The settle check succeeds (R57): the level settled at, and whether it is a via. -/
def State.settles (s : State) : Option Move :=
  if s.plat.phase.inFlight && s.plat.recycle != some .down && s.plat.recycle != some .hold && s.allConform then
    match s.plat.via, s.plat.target with
    | some v, _ => some (.viaSettle v)
    | none, some t => some (.settle t)
    | none, none => none
  else none

/-- The request handed to the engine now: a FORCED entry once trip is no, else the head in SETTLED (R72, R83). -/
def State.nextRequest (s : State) : Option Move :=
  match if s.plat.trip then none else s.queue.find? fun e => e.kind == .forced with
  | some r => some (.handForced r)
  | none =>
    if s.plat.phase = .settled then
      if !s.allConform then some .repair
      else match s.queue with
        | [] => none
        | r :: _ => some (.takeHead r)
    else none

/-- The next move of an event, made only while the nodes stand still; none ends the event. -/
def State.nextMove (s : State) : Option Move :=
  if s.plat.phase = .halted ∨ !s.still then none
  else if s.downLegEnds then some .startHold
  else match s.settles with
    | some m => some m
    | none => match s.nextRequest with
      | some m => some m
      | none => s.grantable.map .grant

/-- Applies a move. -/
def State.applyMove (s : State) : Move → State
  | .startHold => s.startHold
  | .viaSettle v => s.viaSettle v
  | .settle t => s.settle t
  | .handForced r => { s with queue := withoutSource r.source s.queue }.takeForced r
  | .repair => s.startRepair
  | .takeHead r => { s with queue := s.queue.tail }.take r
  | .grant n => s.grant n

/-- Nothing is left to react to: the nodes stand still and no move is due. -/
def State.atRest (s : State) : Bool := s.still && s.nextMove.isNone

/-- The part reacts to an event until nothing moves. -/
def State.react : Nat → State → State
  | 0, s => s
  | k + 1, s =>
    let t := State.standstill Config.roundFuel s
    match t.nextMove with
    | none => t
    | some m => State.react k (t.applyMove m)

/-- The Host Port going inert abandons the frame in progress: it is ignored until nCS rises (R174). DESIGN CHOICE (log 34): the condition is tested on the state that the event's joint reaction leaves, not at the moments inside the event. -/
def State.abandonFrame (s : State) : State :=
  if s.frame.taken ∧ !s.hostLive then { s with frame := .ignored } else s

/-- The end of every event: the joint reaction, then the Host Port's condition. That a COMMIT whose new host I/O node is not ON at the copy, but comes ON within the same event, keeps an open frame is the model's choice (log 34). -/
def State.finish (s : State) : State := (State.react Config.moveFuel s).abandonFrame

end Sys2Proof.Machine
end

