-- ==== Sys2Proof/Machine/FaultOps.lean ====
section
/-! DEFINITION. The fault unit's shared operations (spec/06): forming and storing a record, the first-fault copy, SHED, TRIPPED, HALTED, and the good events of a rail that raise faults (R24, R26, R29, R32, R37). -/

namespace Sys2Proof.Machine

/-- A record of the part as the fault found it (R99, R116); its number is given at the store. -/
def State.faultRecord (s : State) (kind : FaultKind) (node : Option NodeId) (stage : Option Nat)
    (action : FaultAction) : FaultRecord :=
  { seq := 0, kind := kind, node := node, nodeState := node.map s.nodeState, stage := stage
    settled := s.plat.settled, phase := s.plat.phase
    target := if s.plat.phase = .settled then none else s.plat.target
    action := action, uptime := s.uptime }

/-- The store: with room the record takes the next number and joins the tail, and is copied to an absent retained first fault; a full log sets overflow (R117, R120). -/
def State.storeFault (s : State) (r : FaultRecord) : State :=
  if s.faults.log.length < 16 then
    let r := { r with seq := s.faults.nextSeq }
    { s with
      faults := { s.faults with log := s.faults.log ++ [r], nextSeq := s.faults.nextSeq + 1 }
      retained :=
        if s.retained.firstFault.isNone then { s.retained with firstFault := some r, checkGood := true }
        else s.retained }
  else { s with faults := { s.faults with overflow := true } }

/-- A fault is logged before its action (R99). -/
def State.logFault (s : State) (kind : FaultKind) (node : Option NodeId) (stage : Option Nat)
    (action : FaultAction) : State :=
  s.storeFault (s.faultRecord kind node stage action)

/-- SHED: the node fails and its energized transitive dependents are taken down (R102). -/
def State.shed (s : State) (n : NodeId) : State :=
  let s := s.fail n
  (s.active.transitiveDependents n).foldl State.takeDown s

/-- The effective trip level (R106). -/
def State.effectiveTripLevel (s : State) (n : NodeId) : Level :=
  if (s.record n).levelOf = some .standby then .deep else lowLevelOfByte s.active.policy.tripLevel

/-- The action of a node fault that reaches on_fault (R101). -/
def State.onFaultAction (s : State) (n : NodeId) : FaultAction :=
  if (s.record n).sheds then .shed else if s.plat.trip then .halted else .tripped

/-- A node fault that reaches on_fault: logged, then SHED, TRIPPED or HALTED (R101, R102, R107, R108). DESIGN CHOICE (log 35): in a TRIPPED action the trip starts before any ON and unwanted node is tested to go down (R31), so a prerequisite that the fault alone frees and the trip level wants stays ON. -/
def State.faultOnPolicy (s : State) (kind : FaultKind) (n : NodeId) : State :=
  let action := s.onFaultAction n
  let level := s.effectiveTripLevel n
  let s := s.logFault kind (some n) none action
  match action with
  | .halted => (s.fail n).enterHalted
  | .tripped => (s.shed n).startTrip level
  | _ => s.shed n

/-- RISE_TIMEOUT: retried while the count is below retries, else by policy (R27, R100). -/
def State.riseTimeout (s : State) (n : NodeId) : State :=
  if (s.node n).retry < (s.record n).retries.toNat then
    let s := s.logFault .riseTimeout (some n) none .retried
    let s := s.setNode n { s.node n with retry := (s.node n).retry + 1 }
    s.drop n
  else s.faultOnPolicy .riseTimeout n

/-- BACKFEED: noted in the log at most once for each stay (R37, R112). -/
def State.backfeed (s : State) (n : NodeId) : State :=
  if (s.node n).noted then s
  else
    let s := s.logFault .backfeed (some n) none .noted
    s.setNode n { s.node n with noted := true }

/-! ### The good input -/

/-- PGn is sampled: used, SENSED, loaded, not HALTED (R23). -/
def State.sampled (s : State) (r : RailId) : Bool :=
  s.power == .running && s.plat.phase != .halted && (s.record (railNode r)).used &&
    (s.record (railNode r)).senses (railNode r)

/-- Good becomes present: it ends a SENSED rise, or is checked as BACKFEED, or only moves good (R26, R32, R37). -/
def State.takeGood (s : State) (n : NodeId) : State :=
  let s := s.setNode n { s.node n with good := true, filter := none }
  match s.nodeState n with
  | .rising => if (s.node n).mode = some .sensed then s.enterSettling n else s
  | .off | .waiting | .held | .ready | .failed => s.backfeed n
  | .settling | .on | .draining => s

/-- Good becomes absent: GOOD_LOST in SETTLING or ON, the end of a SENSED drain, or only good moves (R29, R32). -/
def State.loseGood (s : State) (n : NodeId) : State :=
  let s := s.setNode n { s.node n with good := false, filter := none }
  match s.nodeState n with
  | .settling | .on => s.faultOnPolicy .goodLost n
  | .draining => if (s.node n).mode = some .sensed then s.toOff n else s
  | .off | .waiting | .held | .ready | .rising | .failed => s

/-- The filter looks at PGn: at the level of good an interval stops, at the other level one starts, and with length 0 the event comes at once (R24). -/
def State.lookAtPg (s : State) (r : RailId) : State :=
  let n := railNode r
  let level := s.inputs.pg[r]
  let len := s.active.policy.goodFilter.toNat
  if !s.sampled r then s
  else if level = (s.node n).good then s.setNode n { s.node n with filter := none }
  else if (s.node n).filter.isSome then s
  else if len = 0 then (if level then s.takeGood n else s.loseGood n).finish
  else s.setNode n { s.node n with filter := some ⟨level, len⟩ }

/-- Every sampled rail's filter looks at its pin, lowest first (R23; order log 13). -/
def State.lookAtAllPg (s : State) : State := allRails.foldl State.lookAtPg s

/-- The filter interval toward the level given ends now (log 4). -/
def State.filterToward (s : State) (n : NodeId) (level : Bool) : Bool := (s.node n).filter == some ⟨level, 0⟩

end Sys2Proof.Machine
end

