-- ==== Sys2Proof/Machine/Operands.lean ====
section
/-! DEFINITION. Operand forms: what the mailbox arguments of a command mean (spec/11 R179), and how a byte written through the window lands in the staged set (spec/11 section 11.7). -/

namespace Sys2Proof.Machine

/-! ### Mailbox arguments -/

/-- Argument byte `i` of a port's mailbox (R179: offsets from 0x0010). -/
def State.arg (s : State) (p : Port) (i : Fin 16) : Byte := (s.mailbox.get p).args[i]

/-- A level by its window encoding (R182). -/
def levelOfCode (b : Byte) : Option Level :=
  if b = 0 then some .deep else levelOfByte b

/-- A request kind by its window encoding (R182). -/
def kindOfCode (b : Byte) : Option Kind :=
  if b = 0 then some .normal else if b = 1 then some .forced else none

/-- A via by its encoding: 0xFF is absent; none when the byte names no value. -/
def viaOfCode (b : Byte) : Option (Option Level) :=
  if b = 0xFF then some none else (levelOfCode b).map some

/-- The SUBMIT arguments of a port as a request; none when the kind, target or via encoding names no value (R76, R179). Bits 1 to 7 of the flags byte read as 0. -/
def State.submitted (s : State) (p : Port) : Option Request :=
  match kindOfCode (s.arg p 0), levelOfCode (s.arg p 1), viaOfCode (s.arg p 2) with
  | some kind, some target, some via =>
    some { source := match p with
             | .host => .hport
             | .mgmt => .mport
           kind := kind, target := target, via := via, recycle := (s.arg p 3).getLsbD 0
           tag := some (s.arg p 4), alternate := false }
  | _, _, _ => none

/-- The sequence number an ACK_FAULT names: argument bytes 0 and 1, low byte first. -/
def State.argSeq (s : State) (p : Port) : Word := s.arg p 1 ++ s.arg p 0

end Sys2Proof.Machine

namespace Sys2Proof

/-! ### Staged bytes -/

/-- A word with its low (`high` false) or high byte replaced. -/
def putByte (w : Word) (high : Bool) (b : Byte) : Word :=
  if high then b ++ w.truncate 8 else (w >>> 8).truncate 8 ++ b

/-- The low or high byte of a word. -/
def getByte (w : Word) (high : Bool) : Byte :=
  if high then (w >>> 8).truncate 8 else w.truncate 8

/-- Byte `i` of a node record, 0 to 14; byte 15 is not part of it. -/
def NodeRecord.byte (r : NodeRecord) (i : Nat) : Byte :=
  match i with
  | 0 => r.level
  | 1 => r.slots[0]
  | 2 => r.slots[1]
  | 3 => r.slots[2]
  | 4 => r.slots[3]
  | 5 => r.flags
  | 6 => r.weight
  | 7 => r.priority
  | 8 => r.retries
  | 9 => getByte r.riseTime false
  | 10 => getByte r.riseTime true
  | 11 => getByte r.settleHold false
  | 12 => getByte r.settleHold true
  | 13 => getByte r.fallTime false
  | 14 => getByte r.fallTime true
  | _ => 0

/-- A node record with byte `i` written. -/
def NodeRecord.withByte (r : NodeRecord) (i : Nat) (b : Byte) : NodeRecord :=
  match i with
  | 0 => { r with level := b }
  | 1 => { r with slots := r.slots.set 0 b }
  | 2 => { r with slots := r.slots.set 1 b }
  | 3 => { r with slots := r.slots.set 2 b }
  | 4 => { r with slots := r.slots.set 3 b }
  | 5 => { r with flags := b }
  | 6 => { r with weight := b }
  | 7 => { r with priority := b }
  | 8 => { r with retries := b }
  | 9 => { r with riseTime := putByte r.riseTime false b }
  | 10 => { r with riseTime := putByte r.riseTime true b }
  | 11 => { r with settleHold := putByte r.settleHold false b }
  | 12 => { r with settleHold := putByte r.settleHold true b }
  | 13 => { r with fallTime := putByte r.fallTime false b }
  | 14 => { r with fallTime := putByte r.fallTime true b }
  | _ => r

/-- Byte `i` of a wake entry, 0 to 4. -/
def WakeEntry.byte (e : WakeEntry) (i : Nat) : Byte :=
  match i with
  | 0 => e.control
  | 1 => e.line
  | 2 => e.armed
  | 3 => e.target
  | 4 => e.notify
  | _ => 0

/-- A wake entry with byte `i` written. -/
def WakeEntry.withByte (e : WakeEntry) (i : Nat) (b : Byte) : WakeEntry :=
  match i with
  | 0 => { e with control := b }
  | 1 => { e with line := b }
  | 2 => { e with armed := b }
  | 3 => { e with target := b }
  | 4 => { e with notify := b }
  | _ => e

/-- Byte `i` of a stage, 0 to 6. -/
def Stage.byte (g : Stage) (i : Nat) : Byte :=
  match i with
  | 0 => getByte g.lo false
  | 1 => getByte g.lo true
  | 2 => getByte g.hi false
  | 3 => getByte g.hi true
  | 4 => getByte g.deadline false
  | 5 => getByte g.deadline true
  | 6 => g.action
  | _ => 0

/-- A stage with byte `i` written. -/
def Stage.withByte (g : Stage) (i : Nat) (b : Byte) : Stage :=
  match i with
  | 0 => { g with lo := putByte g.lo false b }
  | 1 => { g with lo := putByte g.lo true b }
  | 2 => { g with hi := putByte g.hi false b }
  | 3 => { g with hi := putByte g.hi true b }
  | 4 => { g with deadline := putByte g.deadline false b }
  | 5 => { g with deadline := putByte g.deadline true b }
  | 6 => { g with action := b }
  | _ => g

/-- Byte `i` of a plan's area: the count at 0, stage k at 0x10 + 7k; the rest is unmapped. -/
def Plan.byte (p : Plan) (i : Nat) : Byte :=
  if i = 0 then p.count
  else if i < 0x10 then 0
  else if h : (i - 0x10) / 7 < 16 then (p.stages[(i - 0x10) / 7]).byte ((i - 0x10) % 7)
  else 0

/-- A plan with byte `i` of its area written. -/
def Plan.withByte (p : Plan) (i : Nat) (b : Byte) : Plan :=
  if i = 0 then { p with count := b }
  else if i < 0x10 then p
  else if h : (i - 0x10) / 7 < 16 then
    { p with stages := p.stages.set ((i - 0x10) / 7) ((p.stages[(i - 0x10) / 7]).withByte ((i - 0x10) % 7) b) }
  else p

/-- Field `i` of a policy record (R152, one byte each). -/
def Policy.byte (p : Policy) (i : Nat) : Byte :=
  match i with
  | 0 => p.budget
  | 1 => p.goodFilter
  | 2 => p.tripLevel
  | 3 => p.resumePolicy
  | 4 => p.buttonDebounce
  | 5 => p.longPress
  | 6 => p.buttonFloor
  | 7 => p.autoDeepDelay
  | 8 => p.autoDeepUnit
  | 9 => p.hostTargets
  | 10 => p.hostNode
  | 11 => p.recycleHold
  | 12 => p.monitorDefault
  | 13 => p.recoveryLimit
  | 14 => p.alternateAllowed
  | _ => 0

/-- A policy record with field `i` written. -/
def Policy.withByte (p : Policy) (i : Nat) (b : Byte) : Policy :=
  match i with
  | 0 => { p with budget := b }
  | 1 => { p with goodFilter := b }
  | 2 => { p with tripLevel := b }
  | 3 => { p with resumePolicy := b }
  | 4 => { p with buttonDebounce := b }
  | 5 => { p with longPress := b }
  | 6 => { p with buttonFloor := b }
  | 7 => { p with autoDeepDelay := b }
  | 8 => { p with autoDeepUnit := b }
  | 9 => { p with hostTargets := b }
  | 10 => { p with hostNode := b }
  | 11 => { p with recycleHold := b }
  | 12 => { p with monitorDefault := b }
  | 13 => { p with recoveryLimit := b }
  | 14 => { p with alternateAllowed := b }
  | _ => p

/-- A configuration set with one byte written at a staged window address (R182); other addresses change nothing. -/
def ConfigSet.withStagedByte (c : ConfigSet) (addr : Nat) (b : Byte) : ConfigSet :=
  if h : 0x0400 ≤ addr ∧ addr < 0x0600 then
    { c with nodes := c.nodes.set ((addr - 0x0400) / 16) ((c.nodes[(addr - 0x0400) / 16]).withByte (addr % 16) b) }
  else if h : 0x06A0 ≤ addr ∧ addr < 0x06F0 then
    { c with wake := c.wake.set ((addr - 0x06A0) / 5) ((c.wake[(addr - 0x06A0) / 5]).withByte ((addr - 0x06A0) % 5) b) }
  else if 0x0780 ≤ addr ∧ addr < 0x0800 then { c with plan := c.plan.withByte (addr - 0x0780) b }
  else if 0x0820 ≤ addr ∧ addr < 0x082F then { c with policy := c.policy.withByte (addr - 0x0820) b }
  else c

end Sys2Proof
end

