-- ==== Sys2Proof/Machine/Ops.lean ====
section
/-! DEFINITION. The operations the commands share: the frame of an event, the millisecond, the stop of everything at nRST or power loss, the bytes of the two ports and the mailboxes (spec/10 R168, spec/11 R173 to R179). -/

namespace Sys2Proof.Machine

/-! ### Events -/

/-- An event of the running part: its own effect, then the joint reaction. Outside the running phase no event is taken (R168, R169) and nothing changes (log 5). -/
def State.event (s : State) (f : State → State) : State :=
  if s.power = .running then (f s).finish else s

/-- An event that can occur only where `can` holds; elsewhere nothing changes (log 5). -/
def State.eventIf (s : State) (can : Bool) (f : State → State) : State :=
  if can then s.event f else s

/-! ### One millisecond -/

/-- A timer that runs has one ms less left; at 0 its expiry is due (log 3, log 4). -/
def tickTimer (t : Option Nat) : Option Nat := t.map fun left => left - 1

/-- A timer's expiry is due: it runs, with nothing left (log 4). -/
def timerDue (t : Option Nat) : Bool := t == some 0

/-- The end of an interval toward the level is due: it runs toward it, with nothing left (log 4). -/
def intervalDue (t : Option Interval) (toward : Bool) : Bool := t == some ⟨toward, 0⟩

/-- An interval that runs has one ms less left. -/
def tickInterval (t : Option Interval) : Option Interval := t.map fun i => { i with left := i.left - 1 }

/-- A node's timers and filter interval after one ms. -/
def NodeLive.tick (l : NodeLive) : NodeLive :=
  { l with rise := tickTimer l.rise, hold := tickTimer l.hold, fall := tickTimer l.fall, filter := tickInterval l.filter }

/-- A wake entry's interval after one ms. -/
def WakeLive.tick (w : WakeLive) : WakeLive :=
  { w with filter := w.filter.map fun i => { i with left := i.left - 1 } }

/-- Every timer and interval of the running part after one ms. -/
def State.tickTimers (s : State) : State :=
  { s with
    nodes := s.nodes.map NodeLive.tick
    wakes := s.wakes.map WakeLive.tick
    plat := { s.plat with holdTimer := tickTimer s.plat.holdTimer }
    idle := tickTimer s.idle
    button := { s.button with filter := tickInterval s.button.filter, longTimer := tickTimer s.button.longTimer }
    monitor := { s.monitor with deadline := tickTimer s.monitor.deadline } }

/-- One ms passes: the uptime counter counts from the start event, wrapping (R169); the timers of the running part count down (log 3). -/
def State.tick (s : State) : State :=
  match s.power with
  | .unpowered | .resetInterval => s
  | .loading => { s with uptime := s.uptime + 1 }
  | .running => { s.tickTimers with uptime := s.uptime + 1 }

/-! ### Everything stops -/

/-- A bank by its number. -/
def State.bank (s : State) : BankId → Bank
  | .bank0 => s.bank0
  | .bank1 => s.bank1

/-- Replaces a bank. -/
def State.setBank (s : State) (i : BankId) (b : Bank) : State :=
  match i with
  | .bank0 => { s with bank0 := b }
  | .bank1 => { s with bank1 := b }

/-- The bank's contents are being or have been part written: mark clear, the generation a free value (R160, R161, log 15). -/
def State.tearBank (s : State) (i : BankId) : State :=
  { s.setBank i { s.bank i with mark := false, generation := Config.tornGeneration s.freeCount } with
    freeCount := s.freeCount + 1 }

/-- A STORE that runs is cut short: its bank stays invalid, its contents torn (R161, log 15). -/
def State.cutStore (s : State) : State :=
  match s.storeJob with
  | none => s
  | some j => { s.tearBank j.target with storeJob := none }

/-- nRST falling or loss of standby power: nodes as at HALTED entry, every timer of every block stops, no line is watched, a STORE is cut short, a frame or transfer is abandoned (R38, R123, R168, R175). -/
def State.stopEverything (s : State) : State :=
  let s := s.deenergizeAll.cutStore
  { s with
    plat := { s.plat with holdTimer := none }
    idle := none
    button := { s.button with filter := none, longTimer := none }
    monitor := { s.monitor with deadline := none }
    wakes := s.wakes.map fun w => { w with level := none, filter := none }
    frame := if s.frame = .none then .none else .ignored
    transfer := false }

/-- The retained record's supply is gone: its contents are lost and it is invalid (R164). -/
def State.loseRetained (s : State) : State :=
  { s with retained := { s.retained with mark := false, checkGood := false } }

/-! ### Bytes of the ports -/

/-- After a byte written at `addr` the frame's address, or the pointer, is one past it (R173, R175). -/
def State.afterByte (s : State) (p : Port) (addr : Word) : State :=
  match p with
  | .host => { s with frame := .write (addr + 1) }
  | .mgmt => { s with pointer := addr + 1 }

/-- After a byte read at `addr` likewise. -/
def State.afterRead (s : State) (p : Port) (addr : Word) : State :=
  match p with
  | .host => { s with frame := .read (addr + 1) }
  | .mgmt => { s with pointer := addr + 1 }

/-- A byte written at a location: nothing where no such byte reaches the part (R173 to R176), else the address's advance, the effect and the joint reaction. -/
def State.byteEvent (s : State) (p : Port) (addr : Word) (f : State → State) : State :=
  if s.takesByte p addr then (f (s.afterByte p addr)).finish else s

/-- A byte read at a location, in the same shape. -/
def State.readEvent (s : State) (p : Port) (addr : Word) (f : State → State) : State :=
  if s.takesRead p addr then (f (s.afterRead p addr)).finish else s

/-! ### Mailboxes -/

/-- Replaces a port's mailbox. -/
def State.setMailbox (s : State) (p : Port) (m : Mailbox) : State :=
  { s with mailbox := s.mailbox.set p m }

/-- A command finishes: result and detail are written, the status is DONE and MAILBOX is raised (R178). -/
def State.replyDetail (s : State) (p : Port) (r : Result) (d : Detail) : State :=
  (s.setMailbox p { s.mailbox.get p with status := .done, result := r, detail := d }).raise p .mailbox

/-- A result whose detail bytes are 0 (R179). -/
def State.reply (s : State) (p : Port) (r : Result) : State := s.replyDetail p r ⟨0, 0, 0⟩

/-- The write of a code to a port's command byte: BUSY ignores it with OVERRUN, else the command is taken (R178). -/
def State.commandByte (s : State) (p : Port) (code : Byte) (body : State → State) : State :=
  s.byteEvent p 0x0020 fun s =>
    if (s.mailbox.get p).status = .busy then s.raise p .overrun
    else body (s.setMailbox p { s.mailbox.get p with command := code })

/-- The body of a Management Port command: on the Host Port it gives CLASS and nothing else (R179). -/
def State.mgmtOnly (s : State) (p : Port) (body : State → State) : State :=
  match p with
  | .host => s.reply .host .cls
  | .mgmt => body s

/-- A Management Port command's code written to a port's command byte (R178, R179). -/
def State.mgmtCommand (s : State) (p : Port) (code : Byte) (body : State → State) : State :=
  s.commandByte p code fun s => s.mgmtOnly p body

end Sys2Proof.Machine
end

