-- ==== Sys2Proof/Machine/Nodes.lean ====
section
/-! DEFINITION. The node events (spec/02, spec/04 R66): PG_CHANGE, GOOD_TAKEN, GOOD_FALLS, RISE_TIMER_EXPIRY, SETTLE_HOLD_EXPIRY, FALL_TIMER_EXPIRY, RECYCLE_HOLD_EXPIRY. -/

namespace Sys2Proof.Machine

/-- PG_CHANGE (R24): the pin moves whatever the part does; a sampled rail's filter looks at it. -/
def execPgChange (rail : RailId) (high : Bool) (s : State) : Host.Outcome State Fault Refusal :=
  .next (State.event { s with inputs := { s.inputs with pg := s.inputs.pg.set rail.val high rail.isLt } } fun s =>
    s.lookAtPg rail)

/-- GOOD_TAKEN (R24, R26, R37): the end of an interval toward present. -/
def execGoodTaken (rail : RailId) (s : State) : Host.Outcome State Fault Refusal :=
  .next (s.eventIf (s.filterToward (railNode rail) true) fun s => s.takeGood (railNode rail))

/-- GOOD_FALLS (R24, R29, R32): the end of an interval toward absent. -/
def execGoodFalls (rail : RailId) (s : State) : Host.Outcome State Fault Refusal :=
  .next (s.eventIf (s.filterToward (railNode rail) false) fun s => s.loseGood (railNode rail))

/-- The rise timer of a node expires: a TIMED rise ends, a SENSED one times out (R26, R27). -/
def State.expireRise (s : State) (n : NodeId) : State :=
  if (s.node n).mode = some .sensed then s.riseTimeout n else s.enterSettling n

/-- RISE_TIMER_EXPIRY (R26, R27). -/
def execRiseTimerExpiry (node : NodeId) (s : State) : Host.Outcome State Fault Refusal :=
  .next (s.eventIf (s.nodeState node == .rising && timerDue (s.node node).rise) fun s => s.expireRise node)

/-- SETTLE_HOLD_EXPIRY (R28). -/
def execSettleHoldExpiry (node : NodeId) (s : State) : Host.Outcome State Fault Refusal :=
  .next (s.eventIf (s.nodeState node == .settling && timerDue (s.node node).hold) fun s => s.becomeOn node)

/-- The fall timer of a rail expires: the drain ends, or a SENSED rail with good present raises FALL_TIMEOUT (R32, R33). -/
def State.expireFall (s : State) (n : NodeId) : State :=
  if (s.node n).mode = some .sensed ∧ (s.node n).good then s.faultOnPolicy .fallTimeout n else s.toOff n

/-- FALL_TIMER_EXPIRY (R32, R33). -/
def execFallTimerExpiry (rail : RailId) (s : State) : Host.Outcome State Fault Refusal :=
  .next (s.eventIf (s.nodeState (railNode rail) == .draining && timerDue (s.node (railNode rail)).fall) fun s =>
    s.expireFall (railNode rail))

/-- RECYCLE_HOLD_EXPIRY (R65, R66): the UP leg begins. -/
def execRecycleHoldExpiry (s : State) : Host.Outcome State Fault Refusal :=
  .next (s.eventIf (s.plat.recycle == some .hold && timerDue s.plat.holdTimer) fun s =>
    { s with plat := { s.plat with recycle := some .up, holdTimer := none } })

end Sys2Proof.Machine
end

