-- ==== Sys2Proof/Machine/Wake.lean ====
section
/-! DEFINITION. The wake router (spec/07): watching and filtering the lines, matches, wake requests; WAKE_LINE_CHANGE, WAKE_DEBOUNCE_EXPIRY, CLEAR_WAKE. -/

namespace Sys2Proof.Machine

/-- The active wake entry at an index. -/
def State.wakeEntry (s : State) (e : Fin 16) : WakeEntry := s.active.wake[e]

/-- The live record of a wake entry. -/
def State.wakeLive (s : State) (e : Fin 16) : WakeLive := s.wakes[e]

/-- Replaces a wake entry's live record. -/
def State.setWake (s : State) (e : Fin 16) (w : WakeLive) : State :=
  { s with wakes := s.wakes.set e.val w e.isLt }

/-- The level of the line an entry names; a line byte outside WK0-WK15 reads low (log 23). -/
def State.lineLevel (s : State) (e : WakeEntry) : Bool := s.inputs.wk.toList.getD e.line.toNat false

/-! ### Matches -/

/-- A wake request (R130). -/
def wakeRequest (target : Level) : Request :=
  { source := .wake, kind := .normal, target := target, via := none, recycle := false, tag := none, alternate := false }

/-- The higher of two levels, where either may be absent (R128). -/
def higher (a b : Option Level) : Option Level :=
  match a, b with
  | none, b => b
  | some a, none => some a
  | some a, some b => if a.below b then some b else some a

/-- A match sets pending and last match (R125, R127). -/
def WakeLive.matched (w : WakeLive) (now : Dword) : WakeLive := { w with pending := true, lastMatch := some now }

/-- The entry acts on a match: pending clear, phase not HALTED, reference level armed (R126, R127). -/
def State.actsOnMatch (s : State) (e : Fin 16) : Bool :=
  !(s.wakeLive e).pending && s.plat.phase != .halted && (s.wakeEntry e).armedAt s.plat.reference

/-- The WAKE cause at the ports some acting entry notifies (R127, R128). -/
def State.notifyWake (s : State) (acting : List (Fin 16)) : State :=
  let s := if acting.any fun e => (s.wakeEntry e).notifiesHost then s.raise .host .wake else s
  if acting.any fun e => (s.wakeEntry e).notifiesMgmt then s.raise .mgmt .wake else s

/-- All the matches of one event, against one reading of the reference level; one request for the highest target (R127, R128). -/
def State.takeMatches (s : State) (es : List (Fin 16)) : State :=
  let acting := es.filter s.actsOnMatch
  let target := acting.foldl (fun t e => higher t (s.wakeEntry e).targetOf) none
  let s := es.foldl (fun t e => t.setWake e ((t.wakeLive e).matched t.uptime)) s
  let s := s.notifyWake acting
  match target with
  | none => s
  | some t => s.arrive (wakeRequest t)

/-! ### Filtering -/

/-- The debounced levels of the entries move; those that move in their matching direction match (R124, R125). -/
def State.takeEdges (s : State) (es : List (Fin 16)) (high : Fin 16 → Bool) : State :=
  let s' := es.foldl (fun t e => t.setWake e { t.wakeLive e with level := some (high e), filter := none }) s
  s'.takeMatches (es.filter fun e => (s.wakeEntry e).matchesHigh == high e)

/-- The entry's line stands away from its debounced level, with no interval running. -/
def State.wakeMoves (s : State) (e : Fin 16) : Bool :=
  match (s.wakeLive e).level with
  | none => false
  | some level => s.lineLevel (s.wakeEntry e) != level && (s.wakeLive e).filter.isNone

/-- One entry's filter looks at its line: an interval stops or starts, named by the line change that starts it (R124, R128). -/
def State.lookAtWake (s : State) (change : Option Nat) (e : Fin 16) : State :=
  let w := s.wakeLive e
  let level := s.lineLevel (s.wakeEntry e)
  let len := (s.wakeEntry e).debounce
  if w.level = some level then s.setWake e { w with filter := none }
  else if s.wakeMoves e then s.setWake e { w with filter := some ⟨level, len, len, change⟩ }
  else s

/-- The entries' filters look at their lines; with debounce 0 the edge comes at once (R124, R128). -/
def State.lookAtWakes (s : State) (change : Option Nat) (es : List (Fin 16)) : State :=
  let atOnce := es.filter fun e => s.wakeMoves e && (s.wakeEntry e).debounce == 0
  let s := (es.filter fun e => !atOnce.contains e).foldl (fun t e => t.lookAtWake change e) s
  s.takeEdges atOnce fun e => s.lineLevel (s.wakeEntry e)

/-- Watching starts at the entries given: an edge sense takes its line's level, a level sense the level opposite to its active one (R124). -/
def State.startWatching (s : State) (es : List (Fin 16)) : State :=
  let s := es.foldl (fun t e =>
    let entry := t.wakeEntry e
    let level := if entry.levelSense then !entry.matchesHigh else t.lineLevel entry
    t.setWake e { t.wakeLive e with level := some level, filter := none }) s
  s.lookAtWakes none es

/-- The entries whose interval `i` ends with entry `e`'s: those on its line whose interval began at the same line change and has equal length; an interval that began with watching ends alone (R128, log 10). -/
def State.endsWith (s : State) (e : Fin 16) (i : WakeInterval) : List (Fin 16) :=
  allEntries.filter fun f =>
    f == e || (i.change.isSome && (s.wakeEntry f).line == (s.wakeEntry e).line && (s.wakeLive f).level.isSome &&
      (s.wakeLive f).filter == some i)

/-- The end of entry `e`'s interval, and of those that end with it. -/
def State.endWakeInterval (s : State) (e : Fin 16) : State :=
  match (s.wakeLive e).filter with
  | none => s
  | some i => s.takeEdges (s.endsWith e i) fun _ => i.toward

/-- WAKE_LINE_CHANGE (R124): the pin moves whatever the part does; the running part's entries on the line look at it. -/
def execWakeLineChange (line : Fin 16) (high : Bool) (s : State) : Host.Outcome State Fault Refusal :=
  .next (State.event { s with inputs := { s.inputs with wk := s.inputs.wk.set line.val high line.isLt } } fun s =>
    State.lookAtWakes { s with lineChanges := s.lineChanges + 1 } (some s.lineChanges)
      (allEntries.filter fun e => (s.wakeEntry e).onLine line))

/-- Entry `e` is watched and its interval ends now (log 4). -/
def State.wakeDue (s : State) (e : Fin 16) : Bool :=
  (s.wakeLive e).level.isSome && match (s.wakeLive e).filter with
    | some i => i.left == 0
    | none => false

/-- WAKE_DEBOUNCE_EXPIRY (R124, R128). -/
def execWakeDebounceExpiry (entry : Fin 16) (s : State) : Host.Outcome State Fault Refusal :=
  .next (s.eventIf (s.wakeDue entry) fun s => s.endWakeInterval entry)

/-- CLEAR_WAKE of a valid index: pending clears; a level-sense entry still active matches again (R131). -/
def State.clearWakeEntry (s : State) (e : Fin 16) : State :=
  let entry := s.wakeEntry e
  let s := s.setWake e { s.wakeLive e with pending := false }
  if entry.enabled && entry.levelSense && (s.wakeLive e).level == some entry.matchesHigh then s.takeMatches [e] else s

/-- The body of CLEAR_WAKE (R131). -/
def State.clearWakeCommand (s : State) (p : Port) : State :=
  let i := (s.arg p 0).toNat
  if h : i < 16 then (s.clearWakeEntry ⟨i, h⟩).reply p .ok else s.reply p .invalid

/-- CLEAR_WAKE (R131). -/
def execClearWake (p : Port) (s : State) : Host.Outcome State Fault Refusal :=
  .next (s.commandByte p 0x05 fun s => s.clearWakeCommand p)

end Sys2Proof.Machine
end

