-- ==== Sys2Proof/Machine/ConfigStore.lean ====
section
/-! DEFINITION. The configuration store (spec/09, spec/01 section 1.8, R122, R138): the bank check, the newest valid bank, validation of the staged set, COMMIT, STORE, STORE_COMPLETION. -/

namespace Sys2Proof

/-! ### The stored bytes and their check -/

/-- The bytes of a node record in address order. -/
def NodeRecord.bytes (r : NodeRecord) : List Byte := (List.range 15).map r.byte

/-- The bytes of a wake entry in address order. -/
def WakeEntry.bytes (e : WakeEntry) : List Byte := (List.range 5).map e.byte

/-- The bytes of a stage in address order. -/
def Stage.bytes (g : Stage) : List Byte := (List.range 7).map g.byte

/-- The bytes of a policy record in address order. -/
def Policy.bytes (p : Policy) : List Byte := (List.range 15).map p.byte

/-- The bytes of a set in the order of the window's areas (log 14). -/
def ConfigSet.bytes (c : ConfigSet) : List Byte :=
  c.nodes.toList.flatMap NodeRecord.bytes ++ c.wake.toList.flatMap WakeEntry.bytes ++
    (c.plan.count :: c.plan.stages.toList.flatMap Stage.bytes) ++ c.policy.bytes

/-- Bits of the CRC-16 of polynomial x^16 + x^12 + x^5 + 1, most significant bit first (R159, log 14). -/
def crcShift : Nat → Word → Word
  | 0, crc => crc
  | k + 1, crc => crcShift k (if crc.msb then (crc <<< 1) ^^^ 0x1021 else crc <<< 1)

/-- One byte of the CRC-16. -/
def crcByte (crc : Word) (b : Byte) : Word := crcShift 8 (crc ^^^ (b ++ 0#8))

/-- The check over a generation and an image (R159). -/
def imageCrc (generation : Word) (image : ConfigSet) : Word :=
  (getByte generation false :: getByte generation true :: image.bytes).foldl crcByte 0xFFFF

/-! ### Validation of a set -/

/-- The value lies between two bounds. -/
def within (lo hi : Nat) {w : Nat} (b : BitVec w) : Bool := lo ≤ b.toNat && b.toNat ≤ hi

/-- RANGE of policy field `i` (R152, R153). -/
def Policy.fieldInRange (p : Policy) (i : Nat) : Bool :=
  match i with
  | 0 => within 1 63 p.budget
  | 1 => within 0 7 p.goodFilter
  | 2 => within 0 1 p.tripLevel
  | 3 => within 0 3 p.resumePolicy
  | 4 => within 4 64 p.buttonDebounce
  | 5 => within 1 15 p.longPress
  | 6 => within 0 1 p.buttonFloor
  | 7 => within 0 127 p.autoDeepDelay
  | 8 => within 0 1 p.autoDeepUnit
  | 9 => within 0 15 p.hostTargets
  | 10 => within 0 23 p.hostNode || p.hostNode == 0xFF
  | 11 => within 1 255 p.recycleHold
  | 12 => within 0 1 p.monitorDefault
  | 13 => within 0 7 p.recoveryLimit
  | 14 => within 0 1 p.alternateAllowed
  | _ => true

/-- The reasons of a VALIDATION or LIVE_CONFLICT result (R154, R179). -/
inductive Reason where
  | badPrereq | cycle | levelOrder | weight | gateMode | range | wakeTarget | planOverlap | hostNode | members
  deriving DecidableEq, Repr

/-- The reason's code (R179). -/
def Reason.code : Reason → Byte
  | .badPrereq => 0
  | .cycle => 1
  | .levelOrder => 2
  | .weight => 3
  | .gateMode => 4
  | .range => 5
  | .wakeTarget => 6
  | .planOverlap => 7
  | .hostNode => 8
  | .members => 9

/-- The tables a result names (R179). -/
inductive Part where
  | node | wake | plan | policy
  deriving DecidableEq, Repr

/-- The table's code (R179). -/
def Part.code : Part → Byte
  | .node => 0
  | .wake => 1
  | .plan => 2
  | .policy => 3

/-- A failure of validation or of the live conflict test: table, index, reason. -/
structure Failure where
  part : Part
  index : Nat
  reason : Reason
  deriving DecidableEq, Repr

/-- Stage 1: RANGE of the policy record, field 0 to field 14 (R153). -/
def ConfigSet.policyFailure (c : ConfigSet) : Option Failure :=
  ((List.range 15).find? fun i => !c.policy.fieldInRange i).map fun i => ⟨.policy, i, .range⟩

/-- RANGE of a node record (R14). -/
def NodeRecord.inRange (r : NodeRecord) (n : NodeId) : Bool :=
  within 0 3 r.level && within 0 15 r.flags && within 0 15 r.weight && within 0 3 r.priority && within 0 3 r.retries &&
    within (if !isGate n && r.timed then 0 else 1) 2000 r.riseTime && within 0 2000 r.settleHold && within 1 2000 r.fallTime

/-- Pass 1 of the node table (R17). -/
def ConfigSet.nodeRangeFailure (c : ConfigSet) (n : NodeId) : Option Failure :=
  if !(c.node n).inRange n then some ⟨.node, n.val, .range⟩
  else if isGate n && !(c.node n).timed then some ⟨.node, n.val, .gateMode⟩
  else none

/-- The values in the filled slots (R5). -/
def NodeRecord.filled (r : NodeRecord) : List Byte := r.slots.toList.filter fun b => b != 0xFF

/-- BAD_PREREQ (R15). -/
def ConfigSet.badPrereq (c : ConfigSet) (n : NodeId) : Bool :=
  let r := c.node n
  r.filled.any (fun b => 32 ≤ b.toNat || b.toNat == n.val) || !decide r.filled.Nodup ||
    (r.used && r.prereqs.any fun q => !(c.node q).used)

/-- LEVEL_ORDER (R16). -/
def ConfigSet.levelOrderFails (c : ConfigSet) (n : NodeId) : Bool :=
  (c.node n).used && (c.node n).prereqs.any fun q => (c.node n).level.toNat < (c.node q).level.toNat

/-- WEIGHT (R16). -/
def ConfigSet.weightFails (c : ConfigSet) (n : NodeId) : Bool :=
  (c.node n).used && decide (c.policy.budget.toNat < (c.node n).weight.toNat)

/-- Pass 2 of the node table (R17). -/
def ConfigSet.nodeOrderFailure (c : ConfigSet) (n : NodeId) : Option Failure :=
  if c.badPrereq n then some ⟨.node, n.val, .badPrereq⟩
  else if c.levelOrderFails n then some ⟨.node, n.val, .levelOrder⟩
  else if c.weightFails n then some ⟨.node, n.val, .weight⟩
  else none

/-- The node lies on a cycle of used nodes: it is among its own transitive dependents (R16). -/
def ConfigSet.onCycle (c : ConfigSet) (n : NodeId) : Bool := (c.transitiveDependents n).contains n

/-- Stage 2: the three passes over the node table (R17). -/
def ConfigSet.nodesFailure (c : ConfigSet) : Option Failure :=
  ((allNodes.findSome? c.nodeRangeFailure).or (allNodes.findSome? c.nodeOrderFailure)).or
    ((allNodes.find? c.onCycle).map fun n => ⟨.node, n.val, .cycle⟩)

/-- Stage 3: HOST_NODE (R153). -/
def ConfigSet.hostNodeFailure (c : ConfigSet) : Option Failure :=
  match c.policy.hostNodeOf with
  | some n => if (c.node n).used then none else some ⟨.policy, 10, .hostNode⟩
  | none => none

/-- RANGE of a wake entry (R122). -/
def WakeEntry.inRange (e : WakeEntry) : Bool :=
  within 0 31 e.control && within 0 15 e.line && within 0 15 e.armed && within 0 3 e.target && within 0 3 e.notify

/-- WAKE_TARGET: some armed level is at or above the target (R122). -/
def WakeEntry.targetFails (e : WakeEntry) : Bool :=
  match e.targetOf with
  | none => false
  | some t => [Level.deep, .standby, .park, .run].any fun L => e.armedAt L && t.rank ≤ L.rank

/-- Stage 4 for one entry (R122). -/
def ConfigSet.wakeFailure (c : ConfigSet) (e : Fin 16) : Option Failure :=
  if !c.wake[e].inRange then some ⟨.wake, e.val, .range⟩
  else if c.wake[e].targetFails then some ⟨.wake, e.val, .wakeTarget⟩
  else none

/-- RANGE of a stage (R138). -/
def Stage.inRange (g : Stage) : Bool :=
  decide (g.lo.toNat ≤ g.hi.toNat) && within 1 65535 g.deadline && within 0 3 g.action

/-- Some code belongs to both stages: the lo of each is not above the hi of the other (R138). -/
def Stage.overlaps (g h : Stage) : Bool := g.lo.toNat ≤ h.hi.toNat && h.lo.toNat ≤ g.hi.toNat

/-- Stage 5: the two passes over the plan (R138). -/
def ConfigSet.planFailure (c : ConfigSet) : Option Failure :=
  let stages := c.plan.active
  if 16 < c.plan.count.toNat then some ⟨.plan, 0, .range⟩
  else
    ((stages.findIdx? fun g => !g.inRange).map fun k => ⟨.plan, k, .range⟩).or
      (((List.range stages.length).find? fun j => match stages[j]? with
        | some g => (stages.take j).any g.overlaps
        | none => false).map fun k => ⟨.plan, k, .planOverlap⟩)

/-- Validation of a set, whole: the first failure of the five stages (R155). -/
def ConfigSet.failure (c : ConfigSet) : Option Failure :=
  (((c.policyFailure.or c.nodesFailure).or c.hostNodeFailure).or (allEntries.findSome? c.wakeFailure)).or c.planFailure

/-- The set satisfies every validation rule of COMMIT. -/
def ConfigSet.valid (c : ConfigSet) : Bool := c.failure.isNone

/-- The member-set test: the lowest node whose membership of the level differs (R156). -/
def ConfigSet.memberConflict (active staged : ConfigSet) (L : Level) : Option Failure :=
  (allNodes.find? fun n => (active.node n).memberOf L != (staged.node n).memberOf L).map fun n => ⟨.node, n.val, .members⟩

/-- The plan changes (R149). -/
def Plan.changed (old new : Plan) : Bool := old.count != new.count || old.active != new.active

namespace Machine

/-- A failure as the mailbox detail (R179). -/
def Failure.detail (f : Failure) : Detail := ⟨f.part.code, BitVec.ofNat 8 f.index, f.reason.code⟩

/-! ### COMMIT -/

/-- PG sampling as a set's records give it, the phase and load aside (R23). -/
def sampledBy (c : ConfigSet) (n : NodeId) : Bool := (c.node n).used && (c.node n).senses n

/-- Sampling stops: good is absent, without an event; it starts: good takes its initial value (R23, R39). -/
def State.carrySampling (s : State) (old : ConfigSet) (n : NodeId) : State :=
  match sampledBy old n, sampledBy s.active n with
  | true, false => s.setNode n { s.node n with good := false, filter := none }
  | false, true =>
    s.setNode n { s.node n with good := s.nodeState n == .settling || s.nodeState n == .on, filter := none }
  | true, true | false, false => s

/-- A FAILED node made UNUSED goes to OFF (R39). -/
def State.carryFailed (s : State) (n : NodeId) : State :=
  if s.nodeState n = .failed ∧ !(s.record n).used then s.toOff n else s

/-- Energized nodes whose new prerequisites are not all ON (R39). -/
def State.unsupported (s : State) : List NodeId :=
  allNodes.filter fun n => (s.nodeState n).energized && (s.record n).prereqs.any fun q => s.nodeState q != .on

/-- The unsupported nodes and their energized transitive dependents are taken down (R39). -/
def State.takeDownUnsupported (s : State) : State :=
  (s.active.closeDependents 32 s.unsupported).foldl State.takeDown s

/-- The nodes are carried across (R39); placements and the tests of R31 are the event's end. Sampling starts before the take-down, so a rail that the same COMMIT makes SENSED and takes down drains with good present: the model's choice (log 33). -/
def State.carryNodes (s : State) (old : ConfigSet) : State :=
  let s := allNodes.foldl (fun t n => t.carrySampling old n) s
  (allNodes.foldl State.carryFailed s).takeDownUnsupported

/-- A changed plan takes ARMED or STALLED to IDLE (R149). -/
def State.carryMonitor (s : State) (old : ConfigSet) : State :=
  match Plan.changed old.plan s.active.plan, s.monitor.state with
  | true, .armed _ | true, .stalled _ => { s with monitor := { s.monitor with state := .idle, deadline := none } }
  | _, _ => s

/-- The idle timer stops at a delay of 0, and starts where its conditions come to hold (R95). -/
def State.carryIdle (s : State) : State :=
  if s.active.policy.autoDeepDelay = 0 then { s with idle := none } else s.startIdle

/-- The line or the sense differs. -/
def rewired (old new : WakeEntry) : Bool := old.line != new.line || old.sense != new.sense

/-- One entry's record is carried across, watching stopped where R132 stops it. -/
def State.carryWake (s : State) (old : ConfigSet) (e : Fin 16) : State :=
  let w := s.wakeLive e
  let entry := s.wakeEntry e
  if rewired old.wake[e] entry then s.setWake e WakeLive.start
  else if entry.enabled then s
  else s.setWake e { w with level := none, filter := none }

/-- Watching starts at this entry (R132). -/
def startsWatching (old new : ConfigSet) (e : Fin 16) : Bool :=
  new.wake[e].enabled && (rewired old.wake[e] new.wake[e] || !old.wake[e].enabled)

/-- The wake records are carried across, then watching starts (R132). -/
def State.carryWakes (s : State) (old : ConfigSet) : State :=
  let s := allEntries.foldl (fun t e => t.carryWake old e) s
  s.startWatching (allEntries.filter (startsWatching old s.active))

/-- The copy and its effects on the blocks (R157; order log 12). -/
def State.adoptStaged (s : State) : State :=
  let old := s.active
  let s := { s with active := s.staged }
  let s := (((s.carryNodes old).carryMonitor old).carryIdle).finish
  ((s.carryWakes old).finish).lookAtAllPg

/-- The body of COMMIT: phase, validation, live conflict, copy (R154). -/
def State.commitCommand (s : State) : State :=
  if s.plat.phase ≠ .settled then s.reply .mgmt .busy
  else match s.staged.failure with
    | some f => s.replyDetail .mgmt .validation (Failure.detail f)
    | none => match s.active.memberConflict s.staged s.plat.settled with
      | some f => s.replyDetail .mgmt .liveConflict (Failure.detail f)
      | none => s.adoptStaged.reply .mgmt .ok

/-- COMMIT (R154). -/
def execCommit (p : Port) (s : State) : Host.Outcome State Fault Refusal :=
  .next (s.mgmtCommand p 0x10 State.commitCommand)

/-! ### Banks -/

/-- A bank is valid: its mark is set and its check matches (R159). -/
def Bank.valid (b : Bank) : Bool := b.mark && imageCrc b.generation b.image == b.crc

/-- Generation a is newer than generation b (R159). -/
def newer (a b : Word) : Bool := within 1 32767 (a - b)

/-- The newest valid bank (R159). -/
def State.newestValid (s : State) : Option BankId :=
  match s.bank0.valid, s.bank1.valid with
  | false, false => none
  | true, false => some .bank0
  | false, true => some .bank1
  | true, true => if newer s.bank1.generation s.bank0.generation then some .bank1 else some .bank0

/-- The bank a STORE writes (R160). -/
def State.storeTarget (s : State) : BankId :=
  match s.newestValid with
  | some .bank0 => .bank1
  | some .bank1 | none => .bank0

/-- The generation a STORE writes (R160). -/
def State.storeGeneration (s : State) : Word :=
  match s.newestValid with
  | some i => (s.bank i).generation + 1
  | none => 0

/-- The body of STORE; result and detail stand until the completion (R160, log 21). -/
def State.storeCommand (s : State) : State :=
  let job : StoreJob := ⟨s.storeTarget, s.storeGeneration, s.active⟩
  let s := { s.tearBank s.storeTarget with storeJob := some job }
  s.setMailbox .mgmt { s.mailbox.mgmt with status := .busy }

/-- STORE (R160). -/
def execStore (p : Port) (s : State) : Host.Outcome State Fault Refusal :=
  .next (s.mgmtCommand p 0x11 State.storeCommand)

/-- The write finishes: a match makes the target bank valid and clears IMAGE_BAD, a mismatch leaves it invalid (R160). -/
def State.finishStore (s : State) (crcMatches : Bool) (j : StoreJob) : State :=
  let s := { s with storeJob := none }
  if crcMatches then
    let s := s.setBank j.target ⟨true, j.generation, j.image, imageCrc j.generation j.image⟩
    State.reply { s with imageBad := false } .mgmt .ok
  else (s.tearBank j.target).reply .mgmt .storeFailed

/-- STORE_COMPLETION (R160). -/
def execStoreCompletion (crcMatches : Bool) (s : State) : Host.Outcome State Fault Refusal :=
  .next (s.eventIf s.storeJob.isSome fun s =>
    match s.storeJob with
    | some j => s.finishStore crcMatches j
    | none => s)

end Machine

end Sys2Proof
end

