-- ==== Sys2Proof/Machine/Faults.lean ====
section
/-! DEFINITION. The fault commands (spec/06): ACK_FAULT, CLEAR_FAULTS, CLEAR_HALT, CLEAR_RETAINED (spec/10 R167). -/

namespace Sys2Proof.Machine

/-- The body of ACK_FAULT: the head goes when its number matches; overflow clears when none remains (R118). -/
def State.ackFaultCommand (s : State) (p : Port) : State :=
  match s.faults.log with
  | [] => s.reply p .stale
  | r :: rest =>
    if r.seq = s.argSeq p then
      State.reply { s with faults := { s.faults with
        log := rest, overflow := s.faults.overflow && !rest.isEmpty } } p .ok
    else s.reply p .stale

/-- ACK_FAULT (R118). -/
def execAckFault (p : Port) (s : State) : Host.Outcome State Fault Refusal :=
  .next (s.commandByte p 0x04 fun s => s.ackFaultCommand p)

/-- The body of CLEAR_FAULTS (R114); the placements and the repair are the event's end. -/
def State.clearFaultsCommand (s : State) : State :=
  if s.plat.phase ≠ .settled then s.reply .mgmt .busy else s.clearFailures.reply .mgmt .ok

/-- CLEAR_FAULTS (R114). -/
def execClearFaults (p : Port) (s : State) : Host.Outcome State Fault Refusal :=
  .next (s.mgmtCommand p 0x12 State.clearFaultsCommand)

/-- The button leaves LOCKED at CLEAR_HALT when its debounced level is released (R92). -/
def Button.afterClearHalt (b : Button) : Button :=
  if b.state = .locked ∧ !b.pressed then { b with state := .released } else b

/-- CLEAR_HALT in HALTED: SETTLED at DEEP, failures cleared, the retained level DEEP, PG sampling resumed (R70, R111). -/
def State.leaveHalted (s : State) : State :=
  let s := { s with
    plat := { s.plat with phase := .settled, settled := .deep, degraded := false, tripped := false }
    button := s.button.afterClearHalt }
  ((s.retainLevel .deep).clearFailures).lookAtAllPg

/-- The body of CLEAR_HALT (R111). -/
def State.clearHaltCommand (s : State) : State :=
  if s.plat.phase = .halted then s.leaveHalted.reply .mgmt .ok else s.reply .mgmt .stale

/-- CLEAR_HALT (R111). -/
def execClearHalt (p : Port) (s : State) : Host.Outcome State Fault Refusal :=
  .next (s.mgmtCommand p 0x13 State.clearHaltCommand)

/-- The body of CLEAR_RETAINED (R167). -/
def State.clearRetainedCommand (s : State) : State :=
  State.reply { s with retained := { s.retained with firstFault := none, lost := false, checkGood := true } } .mgmt .ok

/-- CLEAR_RETAINED (R167). -/
def execClearRetained (p : Port) (s : State) : Host.Outcome State Fault Refusal :=
  .next (s.mgmtCommand p 0x18 State.clearRetainedCommand)

end Sys2Proof.Machine
end

