-- ==== Sys2Proof/Machine/Progress.lean ====
section
/-! DEFINITION. The progress supervisor (spec/08): DEADLINE_EXPIRY, POST_LOW_BYTE, POST, MONITOR_ON, MONITOR_OFF, SET_BSEL. -/

namespace Sys2Proof.Machine

/-! ### Posts -/

/-- A post is logged, the oldest entry leaving a full log, and counted (R135, R136). -/
def Monitor.logPost (m : Monitor) (code : Word) (now : Dword) : Monitor :=
  let log := m.log ++ [⟨code, now⟩]
  { m with log := if log.length ≤ 32 then log else log.tail, postCount := m.postCount + 1 }

/-- The stage a code belongs to, of index k or higher (R142). -/
def Plan.reached (p : Plan) (k : Nat) (code : Word) : Option Nat :=
  (List.range p.active.length).find? fun j =>
    k ≤ j && match p.active[j]? with
      | some g => g.holds code
      | none => false

/-- Stage `j` is reached with stage `k` due (R142). -/
def State.reachStage (s : State) (k j : Nat) : State :=
  let m := { s.monitor with skipCount := s.monitor.skipCount + (j - k) }
  let m := match s.active.plan.active[j + 1]? with
    | some g => { m with state := .armed (j + 1), deadline := some g.deadlineMs }
    | none => { m with state := .complete, deadline := none, recoveryCount := 0 }
  State.raiseBoth { s with monitor := m } .checkpoint

/-- The stage due in ARMED(k) or STALLED(k) (R142). -/
def MonitorState.due : MonitorState → Option Nat
  | .armed k | .stalled k => some k
  | .disabled | .idle | .recovering | .complete => none

/-- A posted code: logged, counted, matched in ARMED and STALLED (R135, R142). -/
def State.takePost (s : State) (high : Byte) : State :=
  let code : Word := high ++ s.monitor.holding
  let s := { s with monitor := s.monitor.logPost code s.uptime }
  match s.monitor.state.due with
  | none => s
  | some k => match Plan.reached s.active.plan k code with
    | some j => s.reachStage k j
    | none => s

/-! ### A missed stage -/

/-- The decision of a deadline expiry as the record's action (R113, R144); an action byte above 3 reads as COLD, an alternate allowed byte above 1 as no (log 23). -/
def State.stageDecision (s : State) (action : Byte) : FaultAction :=
  if action = 0 then .noted
  else if s.active.policy.recoveryLimit.toNat ≤ s.monitor.recoveryCount then .holdOff
  else if action = 1 then .warm
  else if action = 3 ∧ s.active.policy.alternateAllowed = 1 then .alternate
  else .cold

/-- A WATCH request (R145). -/
def watchRequest (target : Level) (via : Option Level) (recycle alternate : Bool) : Request :=
  { source := .watch, kind := .forced, target := target, via := via, recycle := recycle, tag := none, alternate := alternate }

/-- The request of a decision (R145). -/
def recoveryRequest : FaultAction → Option Request
  | .warm => some (watchRequest .run none true false)
  | .cold => some (watchRequest .run (some .standby) false false)
  | .alternate => some (watchRequest .run (some .standby) false true)
  | .holdOff => some (watchRequest .standby none false false)
  | .retried | .shed | .tripped | .halted | .noted => none

/-- The supervisor after a decision on stage k (R144, R146). -/
def Monitor.afterDecision (m : Monitor) (k : Nat) : FaultAction → Monitor
  | .noted => { m with state := .stalled k, deadline := none }
  | .holdOff => { m with state := .disabled, deadline := none }
  | .retried | .shed | .tripped | .halted => { m with deadline := none }
  | .warm | .cold | .alternate =>
    { m with state := .recovering, deadline := none, recoveryCount := m.recoveryCount + 1 }

/-- A missed stage: the record, the new monitor state, then the request (R113, R144, R145). -/
def State.missStage (s : State) (k : Nat) : State :=
  let action := s.stageDecision ((s.active.plan.active[k]?.map Stage.action).getD 0)
  let s := s.logFault .stageExpiry none (some k) action
  let s := { s with monitor := s.monitor.afterDecision k action }
  match recoveryRequest action with
  | some r => s.arrive r
  | none => s

/-- The stage whose deadline ends now: a deadline that a post has restarted has time left, and one that it has stopped does not run (R143, R144, log 4). -/
def Monitor.watched (m : Monitor) : Option Nat :=
  match m.state, m.deadline with
  | .armed k, some 0 => some k
  | _, _ => none

/-- DEADLINE_EXPIRY (R144). -/
def execDeadlineExpiry (s : State) : Host.Outcome State Fault Refusal :=
  .next (s.eventIf s.monitor.watched.isSome fun s =>
    match s.monitor.watched with
    | some k => s.missStage k
    | none => s)

/-- POST_LOW_BYTE (R135). -/
def execPostLowByte (value : Byte) (s : State) : Host.Outcome State Fault Refusal :=
  .next (s.byteEvent .host 0x0100 fun s => { s with monitor := { s.monitor with holding := value } })

/-- POST (R135, R136, R142). -/
def execPost (high : Byte) (s : State) : Host.Outcome State Fault Refusal :=
  .next (s.byteEvent .host 0x0101 fun s => s.takePost high)

/-! ### Commands -/

/-- The body of MONITOR_ON (R140). -/
def State.monitorOnCommand (s : State) : State :=
  State.reply { s with monitor := { s.monitor with
    state := .idle, deadline := none, recoveryCount := 0, skipCount := 0 } } .mgmt .ok

/-- MONITOR_ON (R140). -/
def execMonitorOn (p : Port) (s : State) : Host.Outcome State Fault Refusal :=
  .next (s.mgmtCommand p 0x14 State.monitorOnCommand)

/-- The body of MONITOR_OFF (R140). -/
def State.monitorOffCommand (s : State) : State :=
  State.reply { s with monitor := { s.monitor with state := .disabled, deadline := none } } .mgmt .ok

/-- MONITOR_OFF (R140). -/
def execMonitorOff (p : Port) (s : State) : Host.Outcome State Fault Refusal :=
  .next (s.mgmtCommand p 0x15 State.monitorOffCommand)

/-- The body of SET_BSEL (R150). -/
def State.setBselCommand (s : State) : State :=
  let v := s.arg .mgmt 0
  if v ≠ 0 ∧ v ≠ 1 then s.reply .mgmt .invalid
  else if s.plat.phase ≠ .settled ∨ s.plat.settled = .run then s.reply .mgmt .busy
  else State.reply { s with retained := { s.retained with bsel := v == 1, checkGood := true } } .mgmt .ok

/-- SET_BSEL (R150). -/
def execSetBsel (p : Port) (s : State) : Host.Outcome State Fault Refusal :=
  .next (s.mgmtCommand p 0x16 State.setBselCommand)

end Sys2Proof.Machine
end

