-- ==== Sys2Proof/Machine/Requests.lean ====
section
/-! DEFINITION. The request commands of a port (spec/05): SUBMIT, CANCEL, ACK_COMPLETION, HOST_LOCK. -/

namespace Sys2Proof.Machine

/-- A port as a request source (00_scope section 7). -/
def Port.source : Port → Source
  | .host => .hport
  | .mgmt => .mport

/-- A port's requests in the queue (R78). -/
def State.queuedOf (s : State) (p : Port) : Nat := (s.queue.filter fun r => r.source == Port.source p).length

/-- A port's requests in flight, 0 or 1 (R78). -/
def State.inFlightOf (s : State) (p : Port) : Nat :=
  match s.plat.inFlight with
  | some r => if r.source = Port.source p then 1 else 0
  | none => 0

/-- The quota sum of a port (R78). -/
def State.quota (s : State) (p : Port) : Nat := (s.completions.get p).length + s.queuedOf p + s.inFlightOf p

/-- The first check of SUBMIT on decoded arguments (R76): the via is below the target, a recycle asks for RUN, the Host Port asks NORMAL. -/
def Request.sound (r : Request) (p : Port) : Bool :=
  (match r.via with
    | some v => v.below r.target
    | none => true) &&
    (!r.recycle || decide (r.target = .run)) && !(decide (p = .host) && decide (r.kind = .forced))

/-- The checks of SUBMIT, in order: a refusal, or the request (R76, R77). -/
def State.checkSubmit (s : State) (p : Port) : Except Result Request :=
  match s.submitted p with
  | none => .error .invalid
  | some r =>
    if !Request.sound r p then .error .invalid
    else if s.plat.phase = .halted then .error .halted
    else if p = .host ∧ (s.hostLock ∨ !s.active.policy.hostMayAsk r.target) then .error .denied
    else if 4 ≤ s.quota p then .error .busy
    else .ok r

/-- The body of SUBMIT (R76). -/
def State.submitCommand (s : State) (p : Port) : State :=
  match s.checkSubmit p with
  | .error e => s.reply p e
  | .ok r => (s.arrive r).reply p .accepted

/-- SUBMIT (R76). -/
def execSubmit (p : Port) (s : State) : Host.Outcome State Fault Refusal :=
  .next (s.commandByte p 0x01 fun s => s.submitCommand p)

/-- The request is this port's with this tag. -/
def Request.isOf (r : Request) (p : Port) (tag : Byte) : Bool :=
  r.source == Port.source p && r.tag == some tag

/-- The body of CANCEL (R85). -/
def State.cancelCommand (s : State) (p : Port) : State :=
  let tag := s.arg p 0
  match s.queue.find? fun r => Request.isOf r p tag with
  | some r =>
    let s := s.complete r .cancelled
    State.reply { s with queue := s.queue.filter fun e => !Request.isOf e p tag } p .ok
  | none =>
    if s.plat.inFlight.any fun r => Request.isOf r p tag then s.reply p .inFlight else s.reply p .stale

/-- CANCEL (R85). -/
def execCancel (p : Port) (s : State) : Host.Outcome State Fault Refusal :=
  .next (s.commandByte p 0x02 fun s => s.cancelCommand p)

/-- The body of ACK_COMPLETION (R89). -/
def State.ackCompletionCommand (s : State) (p : Port) : State :=
  match s.completions.get p with
  | [] => s.reply p .stale
  | c :: rest =>
    if c.tag = s.arg p 0 then State.reply { s with completions := s.completions.set p rest } p .ok
    else s.reply p .stale

/-- ACK_COMPLETION (R89). -/
def execAckCompletion (p : Port) (s : State) : Host.Outcome State Fault Refusal :=
  .next (s.commandByte p 0x03 fun s => s.ackCompletionCommand p)

/-- The body of HOST_LOCK (R77, R179). -/
def State.hostLockCommand (s : State) : State :=
  let v := s.arg .mgmt 0
  if v = 0 then State.reply { s with hostLock := false } .mgmt .ok
  else if v = 1 then State.reply { s with hostLock := true } .mgmt .ok
  else s.reply .mgmt .invalid

/-- HOST_LOCK (R77). -/
def execHostLock (p : Port) (s : State) : Host.Outcome State Fault Refusal :=
  .next (s.mgmtCommand p 0x17 State.hostLockCommand)

end Sys2Proof.Machine
end

