-- ==== Sys2Proof/Machine/Ports.lean ====
section
/-! DEFINITION. The ports' own commands (spec/11): UNKNOWN_COMMAND, CAUSE_ACKNOWLEDGE, MASK_WRITE, REGISTER_WRITE, FORBIDDEN_READ, BUS_TIMEOUT, FRAME_START, FRAME_END, REGISTER_POINTER_SET, TRANSFER_STOP. -/

namespace Sys2Proof.Machine

/-! ### Bytes written -/

/-- The command a code names, taken with the arguments as they stand; INVALID for a code that names none (R179). -/
def State.takeCommand (s : State) (p : Port) (code : Byte) : State :=
  if code = 0x01 then s.submitCommand p
  else if code = 0x02 then s.cancelCommand p
  else if code = 0x03 then s.ackCompletionCommand p
  else if code = 0x04 then s.ackFaultCommand p
  else if code = 0x05 then s.clearWakeCommand p
  else if code = 0x10 then s.mgmtOnly p State.commitCommand
  else if code = 0x11 then s.mgmtOnly p State.storeCommand
  else if code = 0x12 then s.mgmtOnly p State.clearFaultsCommand
  else if code = 0x13 then s.mgmtOnly p State.clearHaltCommand
  else if code = 0x14 then s.mgmtOnly p State.monitorOnCommand
  else if code = 0x15 then s.mgmtOnly p State.monitorOffCommand
  else if code = 0x16 then s.mgmtOnly p State.setBselCommand
  else if code = 0x17 then s.mgmtOnly p State.hostLockCommand
  else if code = 0x18 then s.mgmtOnly p State.clearRetainedCommand
  else s.reply p .invalid

/-- UNKNOWN_COMMAND (R178, R179); a code that names a command acts as that command (log 26). -/
def execUnknownCommand (p : Port) (code : Byte) (s : State) : Host.Outcome State Fault Refusal :=
  .next (s.commandByte p code fun s => s.takeCommand p code)

/-- A byte as the low or the high byte of a word. -/
def wordOf (high : Bool) (b : Byte) : Word := if high then b ++ 0#8 else 0#8 ++ b

/-- Each set bit clears its event cause (R180). -/
def State.acknowledge (s : State) (p : Port) (high : Bool) (v : Byte) : State :=
  { s with causes := s.causes.set p (s.causes.get p &&& ~~~(wordOf high v)) }

/-- CAUSE_ACKNOWLEDGE (R180). -/
def execCauseAcknowledge (p : Port) (high : Bool) (value : Byte) (s : State) : Host.Outcome State Fault Refusal :=
  .next (s.byteEvent p (if high then 0x0043 else 0x0042) fun s => s.acknowledge p high value)

/-- A byte of the mask is replaced; bits 10 to 15 stay 0 (R181, R182, log 24). -/
def State.writeMask (s : State) (p : Port) (high : Bool) (v : Byte) : State :=
  { s with masks := s.masks.set p (putByte (s.masks.get p) high v &&& causeBits) }

/-- MASK_WRITE (R181). -/
def execMaskWrite (p : Port) (high : Bool) (value : Byte) (s : State) : Host.Outcome State Fault Refusal :=
  .next (s.byteEvent p (if high then 0x0045 else 0x0044) fun s => s.writeMask p high value)

/-- A mailbox argument byte is written (R178). -/
def State.writeArg (s : State) (p : Port) (addr : Word) (v : Byte) : State :=
  let i : Fin 16 := Fin.ofNat 16 (addr.toNat - 0x0010)
  s.setMailbox p { s.mailbox.get p with args := (s.mailbox.get p).args.set i.val v i.isLt }

/-- A byte written to a location other than the command byte: stored, acting, or refused with VIOLATION (R177). The rows of the cause, mask and post locations are here for terms that are not well formed (log 26). -/
def State.writeLocation (s : State) (p : Port) (addr : Word) (v : Byte) : State :=
  if isArgument addr then s.writeArg p addr v
  else if p = .mgmt ∧ isStaged addr then { s with staged := s.staged.withStagedByte addr.toNat v }
  else if addr = 0x0042 ∨ addr = 0x0043 then s.acknowledge p (addr == 0x0043) v
  else if addr = 0x0044 ∨ addr = 0x0045 then s.writeMask p (addr == 0x0045) v
  else if p = .host ∧ addr = 0x0100 then { s with monitor := { s.monitor with holding := v } }
  else if p = .host ∧ addr = 0x0101 then s.takePost v
  else s.raise p .violation

/-- REGISTER_WRITE (R177). -/
def execRegisterWrite (p : Port) (addr : Word) (value : Byte) (s : State) : Host.Outcome State Fault Refusal :=
  .next (if addr = 0x0020 then s.commandByte p value fun s => s.takeCommand p value
    else s.byteEvent p addr fun s => s.writeLocation p addr value)

/-- FORBIDDEN_READ (R177): VIOLATION; the byte read is 0 (`windowByte`). An allowed read raises nothing (R172). -/
def execForbiddenRead (p : Port) (addr : Word) (s : State) : Host.Outcome State Fault Refusal :=
  .next (s.readEvent p addr fun s => if readForbidden p addr then s.raise p .violation else s)

/-! ### Frames and transfers -/

/-- A Management Port transfer ends; each byte sent has moved the pointer on (R175, log 9). -/
def State.endTransfer (s : State) (sent : Word) : State :=
  if s.power = .running then { s with pointer := s.pointer + sent, transfer := false } else s

/-- BUS_TIMEOUT (R176): no byte of the abandoned transfer is taken after it. -/
def execBusTimeout (sent : Word) (s : State) : Host.Outcome State Fault Refusal := .next (s.endTransfer sent)

/-- TRANSFER_STOP (R175). -/
def execTransferStop (sent : Word) (s : State) : Host.Outcome State Fault Refusal := .next (s.endTransfer sent)

/-- REGISTER_POINTER_SET (R175): the bytes that follow are written from there on. -/
def execRegisterPointerSet (addr : Word) (s : State) : Host.Outcome State Fault Refusal :=
  .next (if s.power = .running then { s with pointer := addr, transfer := true } else s)

/-- The frame a live port takes by its header: 0x00 is a write frame, 0x80 a read frame, any other direction ignored; with no complete header it has no effect (R173). -/
def frameOf : Option FrameHeader → Frame
  | none => .opened
  | some h =>
    if h.direction = 0x00 then .write h.address
    else if h.direction = 0x80 then .turnaround h.address
    else .ignored

/-- FRAME_START (R173, R174): taken while the port is live, else ignored to its end; the header is told with it (log 8). -/
def execFrameStart (s : State) (header : Option FrameHeader := none) : Host.Outcome State Fault Refusal :=
  .next (if s.frame = .none then { s with frame := if s.hostLive then frameOf header else .ignored } else s)

/-- FRAME_END (R173). -/
def execFrameEnd (s : State) : Host.Outcome State Fault Refusal := .next { s with frame := .none }

end Sys2Proof.Machine
end

