-- ==== Sys2Proof/Machine/Button.lean ====
section
/-! DEFINITION. The power button and the idle timer (spec/05 R91 to R95): PBTN_CHANGE, PRESS, RELEASE, LONG_PRESS, IDLE_TIMER_EXPIRY. -/

namespace Sys2Proof.Machine

/-- The button filter looks at PBTN (low is pressed): at the debounced level an interval stops, at the other one starts (R91). -/
def State.lookAtPbtn (s : State) : State :=
  let down := !s.inputs.pbtnHigh
  if down = s.button.pressed then { s with button := { s.button with filter := none } }
  else if s.button.filter.isSome then s
  else { s with button := { s.button with filter := some ⟨down, s.active.policy.buttonDebounce.toNat⟩ } }

/-- The debounce interval toward the level given ends now (log 4). -/
def Button.filterToward (b : Button) (down : Bool) : Bool := intervalDue b.filter down

/-- A request of the button (R75, R93, R94). -/
def buttonRequest (kind : Kind) (target : Level) : Request :=
  { source := .button, kind := kind, target := target, via := none, recycle := false, tag := none, alternate := false }

/-- A short press: a request for RUN below RUN, else the BUTTON cause at both ports (R93). -/
def State.shortPress (s : State) : State :=
  if s.plat.reference.below .run then s.arrive (buttonRequest .normal .run) else s.raiseBoth .button

/-- The event press (R92). -/
def State.takePress (s : State) : State :=
  let s := { s with button := { s.button with pressed := true, filter := none } }
  match s.button.state with
  | .released =>
    { s with button := { s.button with state := .pressed, longTimer := some s.active.policy.longPressMs } }
  | .locked | .pressed | .long => s

/-- The event release (R92). -/
def State.takeRelease (s : State) : State :=
  let s := { s with button := { s.button with pressed := false, filter := none } }
  match s.button.state with
  | .locked => if s.plat.phase = .halted then s else { s with button := { s.button with state := .released } }
  | .pressed => State.shortPress { s with button := { s.button with state := .released, longTimer := none } }
  | .long => { s with button := { s.button with state := .released } }
  | .released => s

/-- The long press (R94). -/
def State.takeLongPress (s : State) : State :=
  State.arrive { s with button := { s.button with state := .long, longTimer := none } }
    (buttonRequest .forced (lowLevelOfByte s.active.policy.buttonFloor))

/-- The request of the idle timer (R75, R95). -/
def idleRequest : Request :=
  { source := .idle, kind := .normal, target := .deep, via := none, recycle := false, tag := none, alternate := false }

/-- PBTN_CHANGE (R91): the pin moves whatever the part does; the running part's filter looks at it. -/
def execPbtnChange (high : Bool) (s : State) : Host.Outcome State Fault Refusal :=
  .next (State.event { s with inputs := { s.inputs with pbtnHigh := high } } State.lookAtPbtn)

/-- PRESS (R92). -/
def execPress (s : State) : Host.Outcome State Fault Refusal :=
  .next (s.eventIf (s.button.filterToward true) State.takePress)

/-- RELEASE (R92, R93). -/
def execRelease (s : State) : Host.Outcome State Fault Refusal :=
  .next (s.eventIf (s.button.filterToward false) State.takeRelease)

/-- LONG_PRESS (R94). -/
def execLongPress (s : State) : Host.Outcome State Fault Refusal :=
  .next (s.eventIf (s.button.state == .pressed && timerDue s.button.longTimer) State.takeLongPress)

/-- IDLE_TIMER_EXPIRY (R95). -/
def execIdleTimerExpiry (s : State) : Host.Outcome State Fault Refusal :=
  .next (s.eventIf (timerDue s.idle) fun s => State.arrive { s with idle := none } idleRequest)

end Sys2Proof.Machine
end

