-- ==== Sys2Proof/Machine/Power.lean ====
section
/-! DEFINITION. Supplies, reset and the start sequence (spec/10): STANDBY_POWER_ARRIVAL, STANDBY_POWER_LOSS, VBAT_LOSS, NRST_FALL, NRST_RELEASE, LOAD_COMPLETION, UPTIME_WRAP. -/

namespace Sys2Proof.Machine

/-! ### Supplies and nRST -/

/-- Step 1, the start event: uptime 0, the address latched from the straps, the pointer at its start value; the load runs (R169, R175). -/
def State.startEvent (s : State) (adr1 adr0 : Bool) : State :=
  { s with
    power := .loading
    uptime := 0
    address := 0x4C + (if adr1 then 2 else 0) + (if adr0 then 1 else 0)
    pointer := 0 }

/-- Standby power arrives: a start, or the reset interval when nRST is low (R168). -/
def State.standbyArrives (s : State) (adr1 adr0 : Bool) : State :=
  let s := { s with stepFour := false }
  if s.inputs.nrstHigh then s.startEvent adr1 adr0 else { s with power := .resetInterval }

/-- STANDBY_POWER_ARRIVAL (R168, R169). -/
def execStandbyPowerArrival (adr1 adr0 : Bool) (s : State) : Host.Outcome State Fault Refusal :=
  .next (if s.power = .unpowered then s.standbyArrives adr1 adr0 else s)

/-- Standby power goes: everything stops; without VBAT the retained record is lost (R161, R164, R168). -/
def State.standbyGoes (s : State) (vbat : Bool) : State :=
  let s := { s.stopEverything with power := .unpowered, stepFour := false, inputs := { s.inputs with vbat := vbat } }
  if vbat then s else s.loseRetained

/-- STANDBY_POWER_LOSS (R164, R168). -/
def execStandbyPowerLoss (vbat : Bool) (s : State) : Host.Outcome State Fault Refusal :=
  .next (if s.power = .unpowered then s else s.standbyGoes vbat)

/-- VBAT_LOSS (R164): it disturbs nothing while standby power is present. -/
def execVbatLoss (s : State) : Host.Outcome State Fault Refusal :=
  let s := { s with inputs := { s.inputs with vbat := false } }
  .next (if s.power = .unpowered then s.loseRetained else s)

/-- A start sequence runs or has run: the part is outside the reset interval, with standby power. -/
def Power.started : Power → Bool
  | .loading | .running => true
  | .unpowered | .resetInterval => false

/-- NRST_FALL (R168): the reset interval begins. -/
def execNrstFall (s : State) : Host.Outcome State Fault Refusal :=
  let s := { s with inputs := { s.inputs with nrstHigh := false } }
  .next (if s.power.started then { s.stopEverything with power := .resetInterval } else s)

/-- NRST_RELEASE (R168): a start, with standby power present. -/
def execNrstRelease (adr1 adr0 : Bool) (s : State) : Host.Outcome State Fault Refusal :=
  let s := { s with inputs := { s.inputs with nrstHigh := true } }
  .next (if s.power = .resetInterval then s.startEvent adr1 adr0 else s)

/-! ### The load completion event -/

/-- Step 2 ends: the newest valid bank's image, or the empty set, in both sets (R162). -/
def State.loadImage (s : State) : State :=
  let image := match s.newestValid with
    | some i => (s.bank i).image
    | none => ConfigSet.empty
  { s with active := image, staged := image, loadedBank := s.newestValid, imageBad := s.newestValid.isNone }

/-- The start cause of this start (R168). -/
def State.causeOfStart (s : State) : StartCause := if s.stepFour then .externalReset else .standbyPower

/-- The defaults of the retained record (R164). -/
def Retained.defaults (cause : StartCause) : Retained :=
  { mark := true, checkGood := true, lastSettled := none, bsel := false, firstFault := none, startCause := cause, lost := true }

/-- Step 4: the record is checked, then the start cause is written (R166, R170). -/
def State.checkRetained (s : State) : State :=
  { s with
    retained := if s.retained.valid then { s.retained with startCause := s.causeOfStart }
      else Retained.defaults s.causeOfStart
    stepFour := true }

/-- The monitor state at start (R140); a default byte above 1 reads as disabled (log 23). -/
def Policy.monitorAtStart (p : Policy) : MonitorState := if p.monitorDefault = 1 then .idle else .disabled

/-- Steps 5 and 6: every block at its start value, the monitor at its default (R170). -/
def State.startBlocks (s : State) : State :=
  { s with
    power := .running
    storeJob := none
    nodes := Vector.replicate 32 NodeLive.start
    budgetInUse := 0
    ready := []
    plat := Platform.start
    queue := []
    hostLock := false
    button := Button.start
    idle := none
    faults := FaultUnit.start
    wakes := Vector.replicate 16 WakeLive.start
    monitor := Monitor.start (Policy.monitorAtStart s.active.policy)
    mailbox := ⟨Mailbox.start, Mailbox.start⟩
    completions := ⟨[], []⟩
    causes := ⟨0, 0⟩
    masks := ⟨0, 0⟩ }

/-- Step 6: PG sampling, wake watching and the button filter start (R170). -/
def State.startInputs (s : State) : State :=
  let s := s.lookAtAllPg
  (s.startWatching (allEntries.filter fun e => (s.wakeEntry e).enabled)).lookAtPbtn

/-- A RESUME request (R171). -/
def resumeRequest (target : Level) : Request :=
  { source := .resume, kind := .normal, target := target, via := none, recycle := false, tag := none, alternate := false }

/-- The target the resume policy asks for (R171): 0 STAY_DEEP, 1 STANDBY, 2 RUN, 3 LAST; a byte above 3 as STAY_DEEP (log 23). -/
def State.resumeTarget (s : State) : Option Level :=
  if s.active.policy.resumePolicy = 1 then some .standby
  else if s.active.policy.resumePolicy = 2 then some .run
  else if s.active.policy.resumePolicy = 3 then some (s.retained.lastSettled.getD .standby)
  else none

/-- Step 7: the RESUME request (R96, R171). -/
def State.resume (s : State) : State :=
  match s.resumeTarget with
  | some t => (s.arrive (resumeRequest t)).finish
  | none => s

/-- The load completion event (R170, R171). -/
def State.completeLoad (s : State) : State :=
  (s.loadImage.checkRetained.startBlocks.startInputs.finish).resume

/-- LOAD_COMPLETION (R162, R170, R171). -/
def execLoadCompletion (s : State) : Host.Outcome State Fault Refusal :=
  .next (if s.power = .loading then s.completeLoad else s)

/-! ### Uptime -/

/-- UPTIME_WRAP (R169): the counter at 4 294 967 295 goes to 0. -/
def execUptimeWrap (s : State) : Host.Outcome State Fault Refusal :=
  .next (if s.power.started ∧ s.uptime = 0xFFFFFFFF then { s with uptime := 0 } else s)

end Sys2Proof.Machine
end

