-- ==== Sys2Proof/Machine/Dispatch.lean ====
section
/-! DEFINITION. One arm for each command of the table, in its order. -/

namespace Sys2Proof.Machine

def exec (i : Instr) (s : State) : Host.Outcome State Fault Refusal :=
  match i with
  | .standbyPowerArrival adr1 adr0 => Sys2Proof.Machine.execStandbyPowerArrival adr1 adr0 s
  | .standbyPowerLoss vbat => Sys2Proof.Machine.execStandbyPowerLoss vbat s
  | .vbatLoss => Sys2Proof.Machine.execVbatLoss s
  | .nrstFall => Sys2Proof.Machine.execNrstFall s
  | .nrstRelease adr1 adr0 => Sys2Proof.Machine.execNrstRelease adr1 adr0 s
  | .loadCompletion => Sys2Proof.Machine.execLoadCompletion s
  | .uptimeWrap => Sys2Proof.Machine.execUptimeWrap s
  | .pgChange rail high => Sys2Proof.Machine.execPgChange rail high s
  | .goodTaken rail => Sys2Proof.Machine.execGoodTaken rail s
  | .goodFalls rail => Sys2Proof.Machine.execGoodFalls rail s
  | .riseTimerExpiry node => Sys2Proof.Machine.execRiseTimerExpiry node s
  | .settleHoldExpiry node => Sys2Proof.Machine.execSettleHoldExpiry node s
  | .fallTimerExpiry rail => Sys2Proof.Machine.execFallTimerExpiry rail s
  | .recycleHoldExpiry => Sys2Proof.Machine.execRecycleHoldExpiry s
  | .pbtnChange high => Sys2Proof.Machine.execPbtnChange high s
  | .press => Sys2Proof.Machine.execPress s
  | .release => Sys2Proof.Machine.execRelease s
  | .longPress => Sys2Proof.Machine.execLongPress s
  | .idleTimerExpiry => Sys2Proof.Machine.execIdleTimerExpiry s
  | .wakeLineChange line high => Sys2Proof.Machine.execWakeLineChange line high s
  | .wakeDebounceExpiry entry => Sys2Proof.Machine.execWakeDebounceExpiry entry s
  | .deadlineExpiry => Sys2Proof.Machine.execDeadlineExpiry s
  | .postLowByte value => Sys2Proof.Machine.execPostLowByte value s
  | .post high => Sys2Proof.Machine.execPost high s
  | .submit p => Sys2Proof.Machine.execSubmit p s
  | .cancel p => Sys2Proof.Machine.execCancel p s
  | .ackCompletion p => Sys2Proof.Machine.execAckCompletion p s
  | .ackFault p => Sys2Proof.Machine.execAckFault p s
  | .clearWake p => Sys2Proof.Machine.execClearWake p s
  | .commit p => Sys2Proof.Machine.execCommit p s
  | .store p => Sys2Proof.Machine.execStore p s
  | .storeCompletion crcMatches => Sys2Proof.Machine.execStoreCompletion crcMatches s
  | .clearFaults p => Sys2Proof.Machine.execClearFaults p s
  | .clearHalt p => Sys2Proof.Machine.execClearHalt p s
  | .monitorOn p => Sys2Proof.Machine.execMonitorOn p s
  | .monitorOff p => Sys2Proof.Machine.execMonitorOff p s
  | .setBsel p => Sys2Proof.Machine.execSetBsel p s
  | .hostLock p => Sys2Proof.Machine.execHostLock p s
  | .clearRetained p => Sys2Proof.Machine.execClearRetained p s
  | .unknownCommand p code => Sys2Proof.Machine.execUnknownCommand p code s
  | .causeAcknowledge p high value => Sys2Proof.Machine.execCauseAcknowledge p high value s
  | .maskWrite p high value => Sys2Proof.Machine.execMaskWrite p high value s
  | .registerWrite p addr value => Sys2Proof.Machine.execRegisterWrite p addr value s
  | .forbiddenRead p addr => Sys2Proof.Machine.execForbiddenRead p addr s
  | .busTimeout sent => Sys2Proof.Machine.execBusTimeout sent s
  | .frameStart header => Sys2Proof.Machine.execFrameStart s header
  | .frameEnd => Sys2Proof.Machine.execFrameEnd s
  | .registerPointerSet addr => Sys2Proof.Machine.execRegisterPointerSet addr s
  | .transferStop sent => Sys2Proof.Machine.execTransferStop sent s

end Sys2Proof.Machine
end

