-- ==== Sys2Proof/Machine/Window.lean ====
section
/-! DEFINITION. What a port reads at a window address in a state (spec/11 R172, R177, R182 and the layouts of section 11.7). A read has no row of its own but the forbidden one (log 9). -/

namespace Sys2Proof.Machine

/-! ### Encodings -/

/-- Byte `i`, low first, of a number. -/
def byteOf (v i : Nat) : Byte := BitVec.ofNat 8 (v / 256 ^ i)

/-- A flag as a byte. -/
def flag (b : Bool) : Byte := if b then 1 else 0

/-- The level's encoding (R182). -/
def levelCode (L : Level) : Byte := BitVec.ofNat 8 L.rank

/-- An optional byte field: 0xFF when absent (R182). -/
def optional {α : Type} (code : α → Byte) : Option α → Byte
  | some a => code a
  | none => 0xFF

/-- The phase's encoding, 0x0009. -/
def Phase.code : Phase → Byte
  | .settled => 0
  | .rising => 1
  | .falling => 2
  | .recycling => 3
  | .halted => 4

/-- The leg's encoding, 0x000C. -/
def Leg.code : Leg → Byte
  | .down => 0
  | .hold => 1
  | .up => 2

/-- The node state's encoding, node record byte 15. -/
def NodeState.code : NodeState → Byte
  | .off => 0
  | .waiting => 1
  | .held => 2
  | .ready => 3
  | .rising => 4
  | .settling => 5
  | .on => 6
  | .draining => 7
  | .failed => 8

/-- The source's encoding. -/
def Source.code : Source → Byte
  | .hport => 0
  | .mport => 1
  | .button => 2
  | .wake => 3
  | .watch => 4
  | .resume => 5
  | .idle => 6

/-- The kind's encoding. -/
def Kind.code : Kind → Byte
  | .normal => 0
  | .forced => 1

/-- The outcome's encoding. -/
def Ending.code : Ending → Byte
  | .done => 0
  | .noChange => 1
  | .superseded => 2
  | .cancelled => 3
  | .abortedByFault => 4

/-- The fault kind's encoding. -/
def FaultKind.code : FaultKind → Byte
  | .riseTimeout => 0
  | .goodLost => 1
  | .fallTimeout => 2
  | .backfeed => 3
  | .stageExpiry => 4

/-- The action's encoding. -/
def FaultAction.code : FaultAction → Byte
  | .retried => 0
  | .shed => 1
  | .tripped => 2
  | .halted => 3
  | .noted => 4
  | .warm => 5
  | .cold => 6
  | .alternate => 7
  | .holdOff => 8

/-- The mailbox status' encoding, 0x0021. -/
def MailStatus.code : MailStatus → Byte
  | .idle => 0
  | .busy => 1
  | .done => 2

/-- The result's code (R179). -/
def Result.code : Result → Byte
  | .ok => 0
  | .accepted => 1
  | .invalid => 2
  | .denied => 3
  | .busy => 4
  | .halted => 5
  | .stale => 6
  | .inFlight => 7
  | .cls => 8
  | .validation => 9
  | .liveConflict => 10
  | .storeFailed => 11

/-- The button state's encoding, 0x00C6. -/
def ButtonState.code : ButtonState → Byte
  | .locked => 0
  | .released => 1
  | .pressed => 2
  | .long => 3

/-- The monitor state's encoding, 0x0102. -/
def MonitorState.code : MonitorState → Byte
  | .disabled => 0
  | .idle => 1
  | .armed _ => 2
  | .stalled _ => 3
  | .recovering => 4
  | .complete => 5

/-- The bank's number, 0x00CD. -/
def BankId.code : BankId → Byte
  | .bank0 => 0
  | .bank1 => 1

/-- The start cause's encoding, 0x0903. -/
def StartCause.code : StartCause → Byte
  | .standbyPower => 0
  | .externalReset => 1

/-! ### Records -/

/-- Byte `i` of a request record. -/
def Request.byte (r : Request) (i : Nat) : Byte :=
  match i with
  | 0 => r.source.code
  | 1 => r.kind.code
  | 2 => levelCode r.target
  | 3 => optional levelCode r.via
  | 4 => flag r.recycle + 2 * flag r.alternate + 4 * flag r.tag.isSome
  | 5 => r.tag.getD 0xFF
  | _ => 0

/-- Byte `i` of a completion record. -/
def Completion.byte (c : Completion) (i : Nat) : Byte :=
  match i with
  | 0 => c.tag
  | 1 => c.ending.code
  | 2 => levelCode c.settled
  | 3 => flag c.degraded
  | _ => 0

/-- Byte `i` of a fault record; absent fields, and byte 4 as the state code with bits 4 to 7 clear, are log 29. -/
def FaultRecord.byte (f : FaultRecord) (i : Nat) : Byte :=
  match i with
  | 0 => byteOf f.seq.toNat 0
  | 1 => byteOf f.seq.toNat 1
  | 2 => f.kind.code
  | 3 => optional (fun n : NodeId => BitVec.ofNat 8 n.val) f.node
  | 4 => optional NodeState.code f.nodeState
  | 5 => optional (fun k => BitVec.ofNat 8 k) f.stage
  | 6 => levelCode f.settled
  | 7 => f.phase.code
  | 8 => optional levelCode f.target
  | 9 => f.action.code
  | 10 | 11 | 12 | 13 => byteOf f.uptime.toNat (i - 10)
  | _ => 0

/-- Byte `i` of a progress entry. -/
def ProgressEntry.byte (e : ProgressEntry) (i : Nat) : Byte :=
  if i < 2 then byteOf e.code.toNat i else byteOf e.uptime.toNat (i - 2)

/-- Byte 15 of a record of the active node table. -/
def NodeLive.byte (l : NodeLive) : Byte :=
  l.state.code + BitVec.ofNat 8 (16 * (l.retry % 4)) + (if l.good then 0x40 else 0) + (if l.noted then 0x80 else 0)

/-- Byte 5 of an entry of the active wake table. -/
def WakeLive.byte (w : WakeLive) : Byte :=
  flag w.pending + 2 * flag w.level.isSome + 4 * flag (w.level == some true) + 8 * flag w.lastMatch.isSome

/-- Byte `i` of entry `i / size` of a list of records of `size` bytes; 0 beyond the list. -/
def listByte {α : Type} (xs : List α) (size : Nat) (byte : α → Nat → Byte) (i : Nat) : Byte :=
  match xs[i / size]? with
  | some x => byte x (i % size)
  | none => 0

/-- A remaining time as a number of the width given; all ones when stopped. -/
def remaining (t : Option Nat) (bytes i : Nat) : Byte := byteOf (t.getD (256 ^ bytes - 1)) i

/-! ### Areas -/

/-- Identity and status, 0x0000-0x000F. -/
def State.identityByte (s : State) (a : Nat) : Byte :=
  match a with
  | 0x00 => 0xA7
  | 0x01 => 0x18
  | 0x02 => 0x01
  | 0x03 => flag s.imageBad + 2 * flag s.retained.lost + 4 * flag s.hostLock + 8 * flag s.hostLive
  | 0x04 | 0x05 | 0x06 | 0x07 => byteOf s.uptime.toNat (a - 4)
  | 0x08 => levelCode s.plat.settled
  | 0x09 => s.plat.phase.code
  | 0x0A => optional levelCode s.plat.target
  | 0x0B => optional levelCode s.plat.via
  | 0x0C => optional Leg.code s.plat.recycle
  | 0x0D => flag s.plat.trip + 2 * flag s.plat.tripped + 4 * flag s.plat.degraded
  | 0x0E | 0x0F => remaining s.plat.holdTimer 2 (a - 0x0E)
  | _ => 0

/-- The banked areas, 0x0010-0x0066. -/
def State.bankedByte (s : State) (p : Port) (a : Nat) : Byte :=
  let m := s.mailbox.get p
  if a < 0x20 then m.args.toList.getD (a - 0x10) 0
  else match a with
    | 0x20 => m.command
    | 0x21 => m.status.code
    | 0x22 => m.result.code
    | 0x23 => m.detail.table
    | 0x24 => m.detail.index
    | 0x25 => m.detail.reason
    | 0x40 | 0x41 => byteOf (s.pendingCauses p).toNat (a - 0x40)
    | 0x44 | 0x45 => byteOf (s.masks.get p).toNat (a - 0x44)
    | 0x60 => BitVec.ofNat 8 (s.completions.get p).length
    | 0x61 | 0x62 | 0x63 | 0x64 => listByte ((s.completions.get p).take 1) 4 Completion.byte (a - 0x61)
    | 0x65 => BitVec.ofNat 8 (s.queuedOf p)
    | 0x66 => BitVec.ofNat 8 (s.inFlightOf p)
    | _ => 0

/-- Fault log, request queue, and the rest of the status block, 0x0080-0x00FF. -/
def State.statusByte (s : State) (a : Nat) : Byte :=
  if a < 0x90 then listByte (s.faults.log.take 1) 16 FaultRecord.byte (a - 0x80)
  else if 0x96 ≤ a ∧ a ≤ 0xBF then listByte s.queue 6 Request.byte (a - 0x96)
  else if 0xC0 ≤ a ∧ a ≤ 0xC5 then
    match s.plat.inFlight with
    | some r => Request.byte r (a - 0xC0)
    | none => if a = 0xC0 then 0xFF else 0
  else if 0xE0 ≤ a then listByte s.ready 1 (fun e _ => BitVec.ofNat 8 e.node.val) (a - 0xE0)
  else match a with
    | 0x90 => BitVec.ofNat 8 s.faults.log.length
    | 0x91 => flag s.faults.overflow
    | 0x92 | 0x93 => byteOf s.faults.nextSeq.toNat (a - 0x92)
    | 0x94 => BitVec.ofNat 8 s.queue.length
    | 0xC6 => s.button.state.code + (if s.button.pressed then 0x80 else 0)
    | 0xC7 => BitVec.ofNat 8 s.budgetInUse
    | 0xC8 | 0xC9 | 0xCA | 0xCB => remaining s.idle 4 (a - 0xC8)
    | 0xCC => flag (Bank.valid s.bank0) + 2 * flag (Bank.valid s.bank1)
    | 0xCD => optional BankId.code s.loadedBank
    | 0xCE | 0xCF => byteOf s.bank0.generation.toNat (a - 0xCE)
    | 0xD0 | 0xD1 => byteOf s.bank1.generation.toNat (a - 0xD0)
    | 0xDF => BitVec.ofNat 8 s.ready.length
    | _ => 0

/-- The stage index shown at 0x0103 (R182). -/
def MonitorState.stage : MonitorState → Option Nat
  | .armed k | .stalled k => some k
  | .disabled | .idle | .recovering | .complete => none

/-- Post location, monitor status and progress log, 0x0100-0x01FF. -/
def State.monitorByte (s : State) (a : Nat) : Byte :=
  if 0x140 ≤ a then listByte s.monitor.log 6 ProgressEntry.byte (a - 0x140)
  else match a with
    | 0x102 => s.monitor.state.code
    | 0x103 => optional (fun k => BitVec.ofNat 8 k) s.monitor.state.stage
    | 0x104 | 0x105 | 0x106 | 0x107 => remaining s.monitor.deadline 4 (a - 0x104)
    | 0x108 => BitVec.ofNat 8 s.monitor.recoveryCount
    | 0x109 => BitVec.ofNat 8 s.monitor.skipCount
    | 0x10A | 0x10B => byteOf s.monitor.postCount.toNat (a - 0x10A)
    | 0x10C => BitVec.ofNat 8 s.monitor.log.length
    | _ => 0

/-- The active node table, 0x0200-0x03FF. -/
def State.activeNodeByte (s : State) (a : Nat) : Byte :=
  let n : NodeId := Fin.ofNat 32 ((a - 0x200) / 16)
  if a % 16 = 15 then (s.node n).byte else (s.record n).byte (a % 16)

/-- The active wake table, 0x0600-0x069F; the bytes of an absent last match are free values (log 20). -/
def State.activeWakeByte (s : State) (a : Nat) : Byte :=
  let e : Fin 16 := Fin.ofNat 16 ((a - 0x600) / 10)
  let i := (a - 0x600) % 10
  if i < 5 then (s.wakeEntry e).byte i
  else if i = 5 then (s.wakeLive e).byte
  else match (s.wakeLive e).lastMatch with
    | some t => byteOf t.toNat (i - 6)
    | none => Config.absentByte (BitVec.ofNat 16 a)

/-- The retained record, 0x0900-0x091F; the bytes of an absent first fault are free values (log 20). -/
def State.retainedByte (s : State) (a : Nat) : Byte :=
  if 0x910 ≤ a then
    match s.retained.firstFault with
    | some f => f.byte (a - 0x910)
    | none => Config.absentByte (BitVec.ofNat 16 a)
  else match a with
    | 0x900 => flag s.retained.mark
    | 0x901 => optional levelCode s.retained.lastSettled
    | 0x902 => flag s.retained.bsel
    | 0x903 => s.retained.startCause.code
    | 0x904 => flag s.retained.lost
    | 0x905 => flag s.retained.firstFault.isSome
    | _ => 0

/-- The staged set, by the addresses of its areas. -/
def stagedByte (c : ConfigSet) (a : Nat) : Byte :=
  if h : 0x0400 ≤ a ∧ a < 0x0600 then (c.nodes[(a - 0x0400) / 16]).byte (a % 16)
  else if h : 0x06A0 ≤ a ∧ a < 0x06F0 then (c.wake[(a - 0x06A0) / 5]).byte ((a - 0x06A0) % 5)
  else if 0x0780 ≤ a ∧ a < 0x0800 then c.plan.byte (a - 0x0780)
  else if 0x0820 ≤ a ∧ a < 0x082F then c.policy.byte (a - 0x0820)
  else 0

/-- The byte a port reads at an address (R172, R177, R182). -/
def State.windowByte (s : State) (p : Port) (addr : Word) : Byte :=
  let a := addr.toNat
  if readForbidden p addr then 0
  else if a < 0x10 then s.identityByte a
  else if a < 0x80 then s.bankedByte p a
  else if a < 0x100 then s.statusByte a
  else if a < 0x200 then s.monitorByte a
  else if a < 0x400 then s.activeNodeByte a
  else if a < 0x600 then stagedByte s.staged a
  else if a < 0x6A0 then s.activeWakeByte a
  else if a < 0x700 then stagedByte s.staged a
  else if a < 0x780 then s.active.plan.byte (a - 0x700)
  else if a < 0x800 then stagedByte s.staged a
  else if a < 0x80F then s.active.policy.byte (a - 0x800)
  else if a < 0x82F then stagedByte s.staged a
  else if 0x900 ≤ a ∧ a < 0x920 then s.retainedByte a
  else 0

/-- The data bytes of one frame or read phase: one snapshot, the address wrapping after 0xFFFF (R172). -/
def State.readBytes (s : State) (p : Port) (addr : Word) (count : Nat) : List Byte :=
  (List.range count).map fun i => s.windowByte p (addr + BitVec.ofNat 16 i)

/-- What SDO shifts out in a read frame after its header: the turnaround byte, 0, then the data of the snapshot `s`, taken as that byte ends (R173, log 9). -/
def State.shiftedOut (s : State) (addr : Word) (count : Nat) : List Byte := 0 :: s.readBytes .host addr count

end Sys2Proof.Machine
end

