-- ==== Sys2Proof/WellFormed.lean ====
section
/-! DEFINITION. Which terms of Instr stand for a row of the table: the four checks on operands that the operand types do not make themselves. -/

namespace Sys2Proof

/-- A term that stands for a row of the table. exec has a meaning for every term, well formed or not (log 26). -/
def Instr.wellFormed : Instr → Bool
  | .unknownCommand _ code => !commandCodes.contains code
  | .registerWrite p addr _ => !hasOwnRow p addr
  | .forbiddenRead p addr => readForbidden p addr
  | .standbyPowerArrival _ _ | .standbyPowerLoss _ | .vbatLoss | .nrstFall | .nrstRelease _ _ | .loadCompletion
  | .uptimeWrap | .pgChange _ _ | .goodTaken _ | .goodFalls _ | .riseTimerExpiry _ | .settleHoldExpiry _
  | .fallTimerExpiry _ | .recycleHoldExpiry | .pbtnChange _ | .press | .release | .longPress | .idleTimerExpiry
  | .wakeLineChange _ _ | .wakeDebounceExpiry _ | .deadlineExpiry | .postLowByte _ | .post _ | .submit _
  | .cancel _ | .ackCompletion _ | .ackFault _ | .clearWake _ | .commit _ | .store _ | .storeCompletion _
  | .clearFaults _ | .clearHalt _ | .monitorOn _ | .monitorOff _ | .setBsel _ | .hostLock _ | .clearRetained _
  | .causeAcknowledge _ _ _ | .maskWrite _ _ _ | .busTimeout _ | .frameStart _ | .frameEnd
  | .registerPointerSet _ | .transferStop _ => true

end Sys2Proof
end

