-- ==== Sys2Proof/Safety.lean ====
section
/-! DEFINITION. The laws the spec says the part keeps at every moment, and the shapes the obligations are stated with. -/

namespace Sys2Proof

/-! ### What a command is, as syntax -/

/-- The supply, reset and load commands: all that the part takes outside the running phase, beside the pins and the frame. -/
def Instr.supplies : Instr → Bool
  | .standbyPowerArrival _ _ | .standbyPowerLoss _ | .vbatLoss | .nrstFall | .nrstRelease _ _ | .loadCompletion
  | .uptimeWrap | .frameStart _ | .frameEnd => true
  | _ => false

/-- The port and the location of the byte that a command writes (R173 to R181). -/
def Instr.byteAt : Instr → Option (Port × Word)
  | .postLowByte _ => some (.host, 0x0100)
  | .post _ => some (.host, 0x0101)
  | .submit p | .cancel p | .ackCompletion p | .ackFault p | .clearWake p | .commit p | .store p | .clearFaults p
  | .clearHalt p | .monitorOn p | .monitorOff p | .setBsel p | .hostLock p | .clearRetained p | .unknownCommand p _ =>
    some (p, 0x0020)
  | .causeAcknowledge p high _ => some (p, if high then 0x0043 else 0x0042)
  | .maskWrite p high _ => some (p, if high then 0x0045 else 0x0044)
  | .registerWrite p addr _ => some (p, addr)
  | _ => none

/-- The code a command's byte has, for the commands that are command-byte writes (R179). -/
def Instr.commandCode : Instr → Option Byte
  | .submit _ => some 0x01
  | .cancel _ => some 0x02
  | .ackCompletion _ => some 0x03
  | .ackFault _ => some 0x04
  | .clearWake _ => some 0x05
  | .commit _ => some 0x10
  | .store _ => some 0x11
  | .clearFaults _ => some 0x12
  | .clearHalt _ => some 0x13
  | .monitorOn _ => some 0x14
  | .monitorOff _ => some 0x15
  | .setBsel _ => some 0x16
  | .hostLock _ => some 0x17
  | .clearRetained _ => some 0x18
  | .unknownCommand _ code => some code
  | _ => none

/-! ### What a set must satisfy -/

/-- The fields of a policy record in index order, each with its range (R152). -/
def Policy.ranges (p : Policy) : List (Byte × Nat × Nat) :=
  [(p.budget, 1, 63), (p.goodFilter, 0, 7), (p.tripLevel, 0, 1), (p.resumePolicy, 0, 3), (p.buttonDebounce, 4, 64),
    (p.longPress, 1, 15), (p.buttonFloor, 0, 1), (p.autoDeepDelay, 0, 127), (p.autoDeepUnit, 0, 1), (p.hostTargets, 0, 15),
    (p.hostNode, 0, 23), (p.recycleHold, 1, 255), (p.monitorDefault, 0, 1), (p.recoveryLimit, 0, 7),
    (p.alternateAllowed, 0, 1)]

/-- Field `i` lies outside its range; the host I/O node may also be NONE (R153). -/
def Policy.fieldFails (p : Policy) (i : Nat) : Prop :=
  ∃ v lo hi, p.ranges[i]? = some (v, lo, hi) ∧ ¬(lo ≤ v.toNat ∧ v.toNat ≤ hi) ∧ ¬(i = 10 ∧ v = 0xFF)

/-- RANGE of a node record (R14). -/
def NodeRecord.rangeFails (r : NodeRecord) (n : NodeId) : Prop :=
  3 < r.level.toNat ∨ 15 < r.flags.toNat ∨ 15 < r.weight.toNat ∨ 3 < r.priority.toNat ∨ 3 < r.retries.toNat ∨
    2000 < r.riseTime.toNat ∨ (r.riseTime = 0 ∧ (24 ≤ n.val ∨ r.flags.getLsbD 0 = false)) ∨ 2000 < r.settleHold.toNat ∨
    2000 < r.fallTime.toNat ∨ r.fallTime = 0

/-- BAD_PREREQ of a node (R15). -/
def ConfigSet.prereqFails (c : ConfigSet) (n : NodeId) : Prop :=
  let slots := (c.node n).slots
  (∃ i : Fin 4, slots[i] ≠ 0xFF ∧ (32 ≤ slots[i].toNat ∨ slots[i].toNat = n.val)) ∨
    (∃ i j : Fin 4, i ≠ j ∧ slots[i] ≠ 0xFF ∧ slots[i] = slots[j]) ∨
    ((c.node n).used = true ∧ ∃ q ∈ (c.node n).prereqs, (c.node q).used = false)

/-- `m` is a used node that lists `n` (R6). -/
def ConfigSet.lists (c : ConfigSet) (n m : NodeId) : Prop := (c.node m).used = true ∧ n ∈ (c.node m).prereqs

/-- RANGE of a wake entry (R122). -/
def WakeEntry.rangeFails (e : WakeEntry) : Prop :=
  31 < e.control.toNat ∨ 15 < e.line.toNat ∨ 15 < e.armed.toNat ∨ 3 < e.target.toNat ∨ 3 < e.notify.toNat

/-- The check a failure names fails in the set (R14, R15, R16, R122, R138, R153). -/
def ConfigSet.fails (c : ConfigSet) (f : Failure) : Prop :=
  match f.part, f.reason with
  | .policy, .range => c.policy.fieldFails f.index
  | .policy, .hostNode => f.index = 10 ∧ ∃ n : NodeId, c.policy.hostNode.toNat = n.val ∧ (c.node n).used = false
  | .node, .range => ∃ n : NodeId, n.val = f.index ∧ (c.node n).rangeFails n
  | .node, .gateMode => ∃ n : NodeId, n.val = f.index ∧ 24 ≤ n.val ∧ (c.node n).flags.getLsbD 0 = false
  | .node, .badPrereq => ∃ n : NodeId, n.val = f.index ∧ c.prereqFails n
  | .node, .levelOrder => ∃ n q : NodeId, n.val = f.index ∧ c.lists q n ∧ (c.node n).level.toNat < (c.node q).level.toNat
  | .node, .weight => ∃ n : NodeId, n.val = f.index ∧ (c.node n).used = true ∧ c.policy.budget.toNat < (c.node n).weight.toNat
  | .node, .cycle => ∃ n : NodeId, n.val = f.index ∧ Relation.TransGen c.lists n n
  | .wake, .range => ∃ e : Fin 16, e.val = f.index ∧ c.wake[e].rangeFails
  | .wake, .wakeTarget => ∃ (e : Fin 16) (T L : Level), e.val = f.index ∧ c.wake[e].targetOf = some T ∧
      c.wake[e].armedAt L = true ∧ T.rank ≤ L.rank
  | .plan, .range => (f.index = 0 ∧ 16 < c.plan.count.toNat) ∨ ∃ g, c.plan.active[f.index]? = some g ∧
      (g.hi.toNat < g.lo.toNat ∨ g.deadline = 0 ∨ 3 < g.action.toNat)
  | .plan, .planOverlap => ∃ j g h, j < f.index ∧ c.plan.active[f.index]? = some g ∧ c.plan.active[j]? = some h ∧
      g.lo.toNat ≤ h.hi.toNat ∧ h.lo.toNat ≤ g.hi.toNat
  | _, _ => False

/-- The place of a check in the order of validation: policy RANGE by field; the three passes over the node table; HOST_NODE; the wake table by entry; the two passes over the plan (R17, R138, R153, R155). -/
def Failure.turn (f : Failure) : Nat :=
  match f.part, f.reason with
  | .policy, .range => f.index
  | .node, .range => 1000 + 2 * f.index
  | .node, .gateMode => 1001 + 2 * f.index
  | .node, .badPrereq => 2000 + 3 * f.index
  | .node, .levelOrder => 2001 + 3 * f.index
  | .node, .weight => 2002 + 3 * f.index
  | .node, .cycle => 3000 + f.index
  | .policy, .hostNode => 4000
  | .wake, .range => 5000 + 2 * f.index
  | .wake, .wakeTarget => 5001 + 2 * f.index
  | .plan, .range => 6000 + f.index
  | .plan, .planOverlap => 7000 + f.index
  | _, _ => 8000

/-! ### What the blocks read in a set's bytes -/

/-- Each field the blocks read of a node record, a wake entry, a stage, a plan and a policy record, by its byte (R2, R5, R121, R137, R152, R182). -/
def fieldReads : Prop :=
  (∀ r : NodeRecord, r.levelOf = (if r.level = 1 then some .standby else if r.level = 2 then some .park
      else if r.level = 3 then some .run else none) ∧
    (r.used = true ↔ r.level = 1 ∨ r.level = 2 ∨ r.level = 3) ∧ r.timed = r.flags.getLsbD 0 ∧
    r.openDrain = r.flags.getLsbD 1 ∧ r.activeHigh = r.flags.getLsbD 2 ∧ r.sheds = r.flags.getLsbD 3 ∧
    (∀ n : NodeId, r.senses n = true ↔ n.val < 24 ∧ r.flags.getLsbD 0 = false) ∧
    ∀ n : NodeId, n ∈ r.prereqs ↔ ∃ i : Fin 4, r.slots[i].toNat = n.val) ∧
  (∀ e : WakeEntry, e.enabled = e.control.getLsbD 0 ∧ e.levelSense = e.control.getLsbD 2 ∧
    e.matchesHigh = !e.control.getLsbD 1 ∧
    e.debounce = (match e.control.getLsbD 4, e.control.getLsbD 3 with
      | false, false => 0
      | false, true => 1
      | true, false => 8
      | true, true => 64) ∧
    (∀ l : Fin 16, e.onLine l = true ↔ e.line.toNat = l.val) ∧
    (∀ L : Level, e.armedAt L = e.armed.getLsbD L.rank) ∧
    e.targetOf = (if e.target = 1 then some .standby else if e.target = 2 then some .park
      else if e.target = 3 then some .run else none) ∧
    e.notifiesHost = e.notify.getLsbD 0 ∧ e.notifiesMgmt = e.notify.getLsbD 1) ∧
  (∀ (p : Plan) (k : Nat), p.active[k]? = if k < p.count.toNat then p.stages[k]? else none) ∧
  (∀ (g : Stage) (code : Word), g.holds code = true ↔ g.lo.toNat ≤ code.toNat ∧ code.toNat ≤ g.hi.toNat) ∧
  ∀ p : Policy, (∀ L : Level, p.hostMayAsk L = p.hostTargets.getLsbD L.rank) ∧
    (∀ n : NodeId, p.hostNodeOf = some n ↔ p.hostNode.toNat = n.val) ∧
    p.autoDeepMs = p.autoDeepDelay.toNat * if p.autoDeepUnit = 0 then 1000 else 60000

/-! ### The stored bytes of an image -/

/-- One bit of the CRC-16 of x^16 + x^12 + x^5 + 1, most significant bit first (R159, log 14). -/
def crcBit (crc : Word) : Word := if crc.getLsbD 15 then (crc <<< 1) ^^^ 0x1021 else crc <<< 1

/-- The stored bytes of an image: the four parts of the set in window order, each record's bytes in address order (R159, R182, log 14). -/
def ConfigSet.stored (c : ConfigSet) : List Byte :=
  let two := fun (w : Word) => [(w.truncate 8 : Byte), (w >>> 8).truncate 8]
  let node := fun (r : NodeRecord) => [r.level] ++ r.slots.toList ++ [r.flags, r.weight, r.priority, r.retries] ++
    two r.riseTime ++ two r.settleHold ++ two r.fallTime
  let wake := fun (e : WakeEntry) => [e.control, e.line, e.armed, e.target, e.notify]
  let stage := fun (g : Stage) => two g.lo ++ two g.hi ++ two g.deadline ++ [g.action]
  c.nodes.toList.flatMap node ++ c.wake.toList.flatMap wake ++ [c.plan.count] ++ c.plan.stages.toList.flatMap stage ++
    c.policy.ranges.map Prod.fst

end Sys2Proof

namespace Sys2Proof.Machine

/-! ### What the joint reaction cannot touch -/

/-- `s` with everything blanked that the joint reaction to an event may change; two states with the same outside agree on all the rest. -/
def State.outside (s : State) : State :=
  { s with
    nodes := Vector.replicate 32 NodeLive.start
    budgetInUse := 0
    ready := []
    plat := Platform.start
    queue := []
    idle := none
    completions := ⟨[], []⟩
    causes := ⟨s.causes.host &&& ~~~Cause.settled.word, s.causes.mgmt &&& ~~~Cause.settled.word⟩
    monitor := { s.monitor with state := .disabled, deadline := none, skipCount := 0 }
    retained := { s.retained with lastSettled := none, bsel := false, checkGood := true }
    frame := .none }

/-! ### The queue and the ready nodes -/

/-- In the queue's order one entry stands before another (R43). -/
def ReadyEntry.before (a b : ReadyEntry) : Prop :=
  a.priority < b.priority ∨ (a.priority = b.priority ∧ a.node.val < b.node.val)

/-- The ready queue holds exactly the READY nodes, each once, in order (R43). -/
def State.readyLaw (s : State) : Prop :=
  s.ready.Pairwise ReadyEntry.before ∧ (s.ready.map ReadyEntry.node).Nodup ∧
    ∀ n, n ∈ s.ready.map ReadyEntry.node ↔ s.nodeState n = .ready

/-! ### Charges and the budget -/

/-- RISING or SETTLING: the states that hold a charge (R42). -/
def NodeState.charged : NodeState → Bool
  | .rising | .settling => true
  | _ => false

/-- The sum of the charges held. -/
def State.chargeSum (s : State) : Nat := (allNodes.map fun n => (s.node n).charge.getD 0).sum

/-- A charge is held exactly in RISING and SETTLING, and the budget in use is their sum (R42). -/
def State.chargeLaw (s : State) : Prop :=
  (∀ n, (s.node n).charge.isSome = (s.nodeState n).charged) ∧ s.budgetInUse = s.chargeSum

/-- The budget in use never exceeds the active budget; no node rises in SETTLED or HALTED, and only used nodes rise (R42, R71). -/
def State.budgetLaw (s : State) : Prop :=
  s.budgetInUse ≤ s.active.policy.budget.toNat ∧
    ∀ n, (s.nodeState n).charged → (s.record n).used ∧ s.plat.phase ≠ .settled ∧ s.plat.phase ≠ .halted

/-- Each timer runs in its own state alone, and no gate drains (R18, R26, R28, R32, R33). -/
def State.timerLaw (s : State) : Prop :=
  (s.power = .running → ∀ n,
    (s.node n).rise.isSome = (s.nodeState n == .rising) ∧ (s.node n).hold.isSome = (s.nodeState n == .settling) ∧
      (s.node n).fall.isSome = (s.nodeState n == .draining)) ∧
    ∀ n, isGate n → s.nodeState n ≠ .draining

/-! ### Energized nodes stand on their prerequisites -/

/-- Every used node in RISING, SETTLING or ON has each of its prerequisites in ON (R31). -/
def State.energizedLaw (s : State) : Prop :=
  ∀ n, (s.record n).used → (s.nodeState n).energized → ∀ q ∈ (s.record n).prereqs, s.nodeState q = .on

/-! ### The platform record -/

/-- Which fields are present together (R51, R52, R55, R61, R64, R65, R69). -/
def Platform.law (p : Platform) : Prop :=
  (p.target.isSome = p.phase.inFlight) ∧ (p.recycle.isSome = (p.phase == .recycling)) ∧
    (p.via.isSome → p.phase = .rising ∨ p.phase = .falling) ∧ (p.inFlight.isSome → p.phase.inFlight) ∧
    (p.trip → p.phase.inFlight ∧ p.via = none ∧ p.recycle = none ∧ p.inFlight = none) ∧
    (p.holdTimer.isSome → p.recycle = some .hold)

/-- In HALTED every node is OFF or FAILED, and nothing waits or runs (R40, R50, R70, R86, R109). -/
def State.haltedLaw (s : State) : Prop :=
  s.plat.phase = .halted →
    (∀ n, s.nodeState n = .off ∨ s.nodeState n = .failed) ∧ s.ready = [] ∧ s.queue = [] ∧ s.idle = none

/-- The idle timer runs only in SETTLED at STANDBY (R95). -/
def State.idleLaw (s : State) : Prop :=
  s.idle.isSome → s.plat.phase = .settled ∧ s.plat.settled = .standby

/-- The platform record, HALTED and the idle timer together. -/
def State.platformLaw (s : State) : Prop := s.plat.law ∧ s.haltedLaw ∧ s.idleLaw

/-! ### Requests -/

/-- The queue never holds two requests of one source (R79). -/
def State.queueLaw (s : State) : Prop := (s.queue.map Request.source).Nodup

/-- A port's completions and its requests queued or in flight never exceed four (R78). -/
def State.quotaLaw (s : State) : Prop := ∀ p, s.quota p ≤ 4

/-! ### Logs -/

/-- At most 16 records, numbered one after the other up to the next number; overflow only with a record left (R115, R117, R118). -/
def FaultUnit.law (f : FaultUnit) : Prop :=
  f.log.length ≤ 16 ∧ (∀ i (h : i < f.log.length), (f.log[i]).seq = f.nextSeq - BitVec.ofNat 16 (f.log.length - i)) ∧
    (f.overflow → f.log ≠ [])

/-- At most 32 posts are kept (R136). -/
def Monitor.logLaw (m : Monitor) : Prop := m.log.length ≤ 32

/-- The deadline timer runs exactly in ARMED, and the stage due is a stage of the active plan (R134, R139). -/
def State.monitorLaw (s : State) : Prop :=
  s.power = .running →
    (s.monitor.deadline.isSome ↔ ∃ k, s.monitor.state = .armed k) ∧
      ∀ k, s.monitor.state.due = some k → k < s.active.plan.active.length

/-- While a boot is watched the platform is SETTLED at RUN, or in a transition whose target is RUN with no via and no recycle, and no trip; a WATCH request never waits in the queue (R139). -/
def State.watchLaw (s : State) : Prop :=
  (∀ k, s.monitor.state = .armed k ∨ s.monitor.state = .stalled k →
    s.plat.settled = .run ∧ s.plat.trip = false ∧ (s.plat.phase = .settled ∨
      (s.plat.phase.inFlight = true ∧ s.plat.target = some .run ∧ s.plat.via = none ∧ s.plat.recycle = none))) ∧
    ∀ r ∈ s.queue, r.source ≠ .watch

/-! ### Configuration, retained record, ports -/

/-- The active set, every marked image and the image of a running STORE satisfy every validation rule (R151). -/
def State.configLaw (s : State) : Prop :=
  s.active.valid ∧ (s.bank0.mark → s.bank0.image.valid) ∧ (s.bank1.mark → s.bank1.image.valid) ∧
    ∀ j, s.storeJob = some j → j.image.valid

/-- The retained record is valid from the first step 4 after power arrival on (R164, R166). -/
def State.retainedLaw (s : State) : Prop :=
  (s.power = .running → s.stepFour) ∧ (s.power = .unpowered → s.stepFour = false) ∧ (s.stepFour → s.retained.valid)

/-- Only the Management Port mailbox is ever BUSY, and exactly while a STORE runs (R160, R178). -/
def State.mailboxLaw (s : State) : Prop :=
  s.power = .running →
    s.mailbox.host.status ≠ .busy ∧ (s.mailbox.mgmt.status = .busy ↔ s.storeJob.isSome)

/-- Only event causes are kept as raised, and masks have the ten bits alone (R180, R182). -/
def State.causeLaw (s : State) : Prop :=
  ∀ p, s.causes.get p &&& ~~~eventCauseBits = 0 ∧ s.masks.get p &&& ~~~causeBits = 0

/-- Every law at once. -/
def State.lawful (s : State) : Prop :=
  s.readyLaw ∧ s.chargeLaw ∧ s.budgetLaw ∧ s.timerLaw ∧ s.energizedLaw ∧ s.platformLaw ∧ s.queueLaw ∧ s.quotaLaw ∧
    s.faults.law ∧ s.monitor.logLaw ∧ s.monitorLaw ∧ s.watchLaw ∧ s.configLaw ∧ s.retainedLaw ∧ s.mailboxLaw ∧ s.causeLaw

/-! ### Shapes of the obligations -/

/-- The state with the level of the pin a command moves; other commands move none. -/
def State.withPin (s : State) : Instr → State
  | .pgChange rail high => { s with inputs := { s.inputs with pg := s.inputs.pg.set rail.val high rail.isLt } }
  | .pbtnChange high => { s with inputs := { s.inputs with pbtnHigh := high } }
  | .wakeLineChange line high => { s with inputs := { s.inputs with wk := s.inputs.wk.set line.val high line.isLt } }
  | _ => s

/-- Nothing is left to react to, and no frame is left to abandon: the state between two events of the running part. -/
def State.quiet (s : State) : Prop := s.atRest = true ∧ (s.frame.taken = true → s.hostLive = true)

/-- A port takes a command byte now: the byte reaches the part and the mailbox is not BUSY (R173 to R178). -/
def State.takesCommand (s : State) (p : Port) : Prop := s.takesByte p 0x0020 = true ∧ (s.mailbox.get p).status ≠ .busy

/-- `s` after a byte at `addr` has reached the part through port `p`: the Host Port's frame, or the Management Port's pointer, stands one past it (R173, R175). -/
def State.byteTaken (s : State) (p : Port) (addr : Word) : State :=
  { s with
    frame := if p = .host then .write (addr + 1) else s.frame
    pointer := if p = .mgmt then addr + 1 else s.pointer }

/-- `s` after `code` has been written to the command byte of port `p` (R175, R178). -/
def State.commanded (s : State) (p : Port) (code : Byte) : State :=
  { s.byteTaken p 0x0020 with mailbox := s.mailbox.set p { s.mailbox.get p with command := code } }

/-- `s` after a command of port `p` has finished: DONE with its result and detail, and MAILBOX at that port (R178). -/
def State.finished (s : State) (p : Port) (r : Result) (d : Detail) : State :=
  { s with
    mailbox := s.mailbox.set p { s.mailbox.get p with status := .done, result := r, detail := d }
    causes := s.causes.set p (s.causes.get p ||| 0x0080) }

/-- `s` after a command that only answers. -/
def State.answered (s : State) (p : Port) (code : Byte) (r : Result) (d : Detail) : State :=
  (s.commanded p code).finished p r d

/-- The detail of a result that carries none (R179). -/
def noDetail : Detail := ⟨0, 0, 0⟩

/-- A request of an internal source: no via, no recycle, no tag, no alternate mark (R75). -/
def plainRequest (src : Source) (kind : Kind) (target : Level) : Request :=
  { source := src, kind := kind, target := target, via := none, recycle := false, tag := none, alternate := false }

/-- A fault record as R99 and R116 describe the part it finds, with the number it gets. -/
def State.recordOf (s : State) (kind : FaultKind) (node : Option NodeId) (stage : Option Nat) (action : FaultAction) :
    FaultRecord :=
  { seq := s.faults.nextSeq, kind := kind, node := node, nodeState := node.map s.nodeState, stage := stage
    settled := s.plat.settled, phase := s.plat.phase, target := if s.plat.phase = .settled then none else s.plat.target
    action := action, uptime := s.uptime }

/-- `e`'s fault log and retained record are those of `s` after it has logged this record: stored while fewer than 16 stand, and copied when no first fault is kept; else overflow alone (R117, R120). -/
def State.logged (s e : State) (r : FaultRecord) : Prop :=
  if s.faults.log.length < 16 then
    e.faults = ⟨s.faults.log ++ [r], s.faults.nextSeq + 1, s.faults.overflow⟩ ∧
      e.retained = if s.retained.firstFault = none then { s.retained with firstFault := some r, checkGood := true }
        else s.retained
  else e.faults = { s.faults with overflow := true } ∧ e.retained = s.retained

/-- The action of a fault that reaches on_fault (R101). -/
def State.actionAt (s : State) (n : NodeId) : FaultAction :=
  if !(s.record n).sheds then (if s.plat.trip then .halted else .tripped) else .shed

/-- Between `s` and `e` nothing outside the nodes, the budget and the ready queue differs, and no node but `n`. -/
def State.onlyNode (s e : State) (n : NodeId) : Prop :=
  { e with nodes := s.nodes, budgetInUse := s.budgetInUse, ready := s.ready } = s ∧ ∀ m, m ≠ n → e.node m = s.node m

/-- The node turns ON, from `s` to `e`: its charge is released and its retry count is 0 (R28, R47). -/
def State.turnedOn (s e : State) (n : NodeId) : Prop :=
  s.onlyNode e n ∧ e.ready = s.ready ∧ e.budgetInUse = s.budgetInUse - (s.node n).charge.getD 0 ∧
    e.node n = { s.node n with
      state := .on, rise := none, hold := none, fall := none, retry := 0, charge := none, mode := none, noted := false }

/-- The rise ends, from `s` to `e`: SETTLING with its hold running and its charge kept, or ON at once with a hold of 0 (R26, R28). -/
def State.riseEnded (s e : State) (n : NodeId) : Prop :=
  if (s.record n).settleHold = 0 then s.turnedOn e n
  else
    s.onlyNode e n ∧ e.ready = s.ready ∧ e.budgetInUse = s.budgetInUse ∧
      e.node n = { s.node n with
        state := .settling, rise := none, hold := some (s.record n).settleHold.toNat, fall := none, mode := none
        noted := false }

/-- The node goes to OFF, from `s` to `e`, with its charge released and its place in the ready queue given up (R22, R32, R33, R34, R44, R47). -/
def State.turnedOff (s e : State) (n : NodeId) : Prop :=
  s.onlyNode e n ∧ e.ready = s.ready.filter (fun x => x.node != n) ∧
    e.budgetInUse = s.budgetInUse - (s.node n).charge.getD 0 ∧
    e.node n = { s.node n with
      state := .off, rise := none, hold := none, fall := none, charge := none, mode := none, noted := false }

/-- The live record of a node that leaves an energized state: a rail drains for fall_time, a gate is OFF (R30, R32, R33, R35). -/
def State.droppedRecord (s : State) (n : NodeId) : NodeLive :=
  if isGate n then
    { s.node n with
      state := .off, rise := none, hold := none, fall := none, charge := none, mode := none, noted := false }
  else
    { s.node n with
      state := .draining, rise := none, hold := none, fall := some (s.record n).fallTime.toNat, charge := none
      mode := some (if (s.record n).timed then .timed else .sensed), noted := false }

/-- SHED at `n` takes down `m`: an energized transitive dependent (R102). -/
def State.shedTakes (s : State) (n m : NodeId) : Bool :=
  m != n && (s.active.transitiveDependents n).contains m && (s.nodeState m).energized

/-- SHED at the nodes, from `s` to `e`: the node is FAILED, each energized transitive dependent drains (rails) or is OFF (gates), their charges are released, and every other node is as it was (R35, R47, R102). -/
def State.shedNodes (s e : State) (n : NodeId) : Prop :=
  e.node n = { s.node n with
    state := .failed, rise := none, hold := none, fall := none, charge := none, mode := none, noted := false } ∧
    (∀ m, m ≠ n → e.node m = if s.shedTakes n m then s.droppedRecord m else s.node m) ∧
    e.budgetInUse = s.budgetInUse -
      (allNodes.map fun m => if m = n ∨ s.shedTakes n m = true then (s.node m).charge.getD 0 else 0).sum ∧
    e.ready = s.ready.filter fun x => x.node != n && !(s.shedTakes n x.node && isGate x.node)

/-! ### Requests that end, and that start -/

/-- A port's completion records of these requests, in their order, at this settled level and degraded flag (R87, R88). -/
def recordsAt (L : Level) (degraded : Bool) (rs : List Request) (e : Ending) (p : Port) : List Completion :=
  (rs.filter fun r => r.source == Port.source p).map fun r => ⟨r.tag.getD 0, e, L, degraded⟩

/-- Both completion queues after these requests have ended in this order, at this settled level and degraded flag. -/
def State.endedAt (s : State) (L : Level) (degraded : Bool) (rs : List Request) (e : Ending) : PerPort (List Completion) :=
  ⟨s.completions.host ++ recordsAt L degraded rs e .host, s.completions.mgmt ++ recordsAt L degraded rs e .mgmt⟩

/-- The same at the levels that stand. -/
def State.ended (s : State) (rs : List Request) (e : Ending) : PerPort (List Completion) :=
  s.endedAt s.plat.settled s.plat.degraded rs e

/-- The monitor after these requests have been superseded or aborted: a WATCH request among them takes RECOVERING to IDLE (R148). -/
def Monitor.afterLoss (m : Monitor) (rs : List Request) : Monitor :=
  if m.state = .recovering ∧ rs.any (fun r => r.source == .watch) then { m with state := .idle } else m

/-- The monitor after a start that leaves RUN (R147). -/
def Monitor.afterLeaving (m : Monitor) : Monitor :=
  match m.state with
  | .armed _ | .stalled _ | .complete => { m with state := .idle, deadline := none }
  | .disabled | .idle | .recovering => m

/-- The via of a request as the engine takes it: below the settled level and below the target (R55). -/
def Request.viaTaken (r : Request) (p : Platform) : Option Level :=
  r.via.filter fun v => v.rank < p.settled.rank && v.rank < r.target.rank

/-- The recycle of a request as the engine takes it: asked for at RUN, with no via taken (R55). -/
def Request.recycleTaken (r : Request) (p : Platform) : Bool :=
  r.recycle && (r.viaTaken p).isNone && p.settled == .run

/-- The state after the start of a request's transition: the platform record, the idle timer, and the start report (R52, R55, R63, R95, R147). -/
def State.startedFor (s : State) (r : Request) : State :=
  let via := r.viaTaken s.plat
  let recycles := r.recycleTaken s.plat
  { s with
    idle := none
    plat :=
      { settled := s.plat.settled
        phase := if recycles then .recycling else if (via.getD r.target).rank < s.plat.settled.rank then .falling else .rising
        target := some r.target, via := via, recycle := if recycles then some .down else none
        exclusion := if recycles then s.active.exclusionSet else [], holdTimer := none, trip := false
        tripped := s.plat.tripped, degraded := s.plat.degraded, inFlight := some r }
    monitor := if r.target ≠ .run ∨ (r.source ≠ .watch ∧ (via.isSome ∨ recycles)) then s.monitor.afterLeaving
      else s.monitor }

/-- The state after the engine has taken a request from the queue in SETTLED (R55, R56). -/
def State.takenInSettled (s : State) (r : Request) : State :=
  if r.kind = .normal ∧ r.target = s.plat.settled ∧ r.viaTaken s.plat = none ∧ r.recycleTaken s.plat = false then
    { s with completions := s.ended [r] .noChange }
  else s.startedFor r

/-- The state after a FORCED request has been taken with trip no: the one in flight and the source's queued one end SUPERSEDED, in that order (R67, R82, R87). -/
def State.overtakenBy (s : State) (r : Request) : State :=
  let lost := s.plat.inFlight.toList ++ (s.queue.find? fun q => q.source == r.source).toList
  State.startedFor { s with
    queue := s.queue.filter fun q => q.source != r.source
    completions := s.ended lost .superseded
    monitor := s.monitor.afterLoss lost } r

/-! ### Settles -/

/-- The nodes after a settle or via settle at a level: retry counts 0, and FAILED nodes OFF at DEEP (R58, R60, R61). -/
def State.nodesSettled (s : State) (L : Level) : Vector NodeLive 32 :=
  s.nodes.map fun l =>
    { l with
      state := if L = .deep ∧ l.state = .failed then .off else l.state
      noted := l.noted && !(decide (L = .deep ∧ l.state = .failed))
      retry := 0 }

/-- The monitor after the RUN report (R141); that RECOVERING stays with an empty plan is log 31. -/
def State.monitorAtRun (s : State) : Monitor :=
  match s.active.plan.active with
  | [] => s.monitor
  | g :: _ =>
    if s.monitor.state = .idle ∨ s.monitor.state = .recovering then
      { s.monitor with state := .armed 0, deadline := some (10 * g.deadline.toNat), skipCount := 0 }
    else s.monitor

/-- The state after a settle at the target (R58, R59, R60, R73, R88, R95, R141). -/
def State.settledAt (s : State) (target : Level) : State :=
  let degraded := s.degradedAt target
  { s with
    nodes := s.nodesSettled target
    plat :=
      { settled := target, phase := .settled, target := none, via := none, recycle := none, exclusion := []
        holdTimer := none, trip := false, tripped := s.plat.trip, degraded := degraded, inFlight := none }
    retained := { s.retained with lastSettled := some target, checkGood := true }
    causes := ⟨s.causes.host ||| 0x0008, s.causes.mgmt ||| 0x0008⟩
    completions := s.endedAt target degraded s.plat.inFlight.toList .done
    idle := if target = .standby ∧ s.active.policy.autoDeepDelay ≠ 0 ∧ s.idle = none then some s.active.policy.autoDeepMs
      else s.idle
    monitor := if s.plat.inFlight ≠ none ∧ target = .run then s.monitorAtRun else s.monitor }

/-- The state after a via settle: the final leg begins, and an ALTERNATE recovery flips the boot-select value (R61, R62). -/
def State.viaSettledAt (s : State) (via : Level) : State :=
  { s with
    nodes := s.nodesSettled via
    plat := { s.plat with
      settled := via, via := none, degraded := s.degradedAt via
      phase := if s.plat.recycle ≠ none then .recycling
        else if (s.plat.target.getD via).rank < via.rank then .falling else .rising }
    retained := { s.retained with
      lastSettled := some via, checkGood := true
      bsel := s.retained.bsel != s.plat.inFlight.any Request.alternate } }

/-! ### The nodes' own rules, and the grant -/

/-- The place of a wanted node by its prerequisites (R21). -/
def State.placedAs (s : State) (n : NodeId) (st : NodeState) : Prop :=
  if ∃ q ∈ (s.record n).prereqs, s.nodeState q = .failed ∨ s.nodeState q = .held then st = .held
  else if ∃ q ∈ (s.record n).prereqs, s.nodeState q ≠ .on then st = .waiting
  else st = .ready

/-- The node moves to another place, from `s` to `e`: READY joins the ready queue with its record's priority, any other place leaves it (R21, R43, R44). -/
def State.placed (s e : State) (n : NodeId) (st : NodeState) : Prop :=
  s.onlyNode e n ∧ e.budgetInUse = s.budgetInUse ∧ e.node n = { s.node n with state := st, noted := false } ∧
    e.ready = if st = .ready then
      insertReady ⟨n, (s.record n).priority.toNat⟩ (s.ready.filter fun x => x.node != n)
    else s.ready.filter fun x => x.node != n

/-- The node leaves an energized state, from `s` to `e` (R30, R31, R33). -/
def State.dropped (s e : State) (n : NodeId) : Prop :=
  s.onlyNode e n ∧ e.budgetInUse = s.budgetInUse - (s.node n).charge.getD 0 ∧ e.node n = s.droppedRecord n ∧
    e.ready = if isGate n then s.ready.filter (fun x => x.node != n) else s.ready

/-- The head is granted, from `s` to `e`: it holds its weight and rises; a rise with nothing to wait for ends at once (R25, R45). -/
def State.granted (s e : State) (n : NodeId) : Prop :=
  ∃ u : State, s.onlyNode u n ∧ u.ready = s.ready.filter (fun x => x.node != n) ∧
    u.budgetInUse = s.budgetInUse + (s.record n).weight.toNat ∧
    u.node n = { s.node n with
      state := .rising, rise := some (s.record n).riseTime.toNat, charge := some (s.record n).weight.toNat, noted := false
      mode := some (if (s.record n).senses n then .sensed else .timed) } ∧
    (if (s.record n).senses n = true ∧ (s.node n).good = true ∨
        (s.record n).senses n = false ∧ (s.record n).riseTime = 0 then u.riseEnded e n
      else e = u)

/-! ### Trips and HALTED -/

/-- The rest of the state at a TRIPPED action, from `s` to `e`: the trip to the effective level, carrying no request; the request in flight and then the queue end ABORTED_BY_FAULT (R69, R86, R87, R106, R107, R147, R148). That no node is tested under R31 between the shed and the trip is log 35. -/
def State.tripStarts (s e : State) (n : NodeId) : Prop :=
  let lost := s.plat.inFlight.toList ++ s.queue
  { e with nodes := s.nodes, budgetInUse := s.budgetInUse, ready := s.ready, faults := s.faults, retained := s.retained } =
    { s with
      queue := [], idle := none
      completions := s.ended lost .abortedByFault
      monitor := (s.monitor.afterLoss lost).afterLeaving
      plat :=
        { settled := s.plat.settled
          phase := if (s.effectiveTripLevel n).rank < s.plat.settled.rank then .falling else .rising
          target := some (s.effectiveTripLevel n), via := none, recycle := none, exclusion := [], holdTimer := none
          trip := true, tripped := s.plat.tripped, degraded := s.plat.degraded, inFlight := none } }

/-- HALTED entry, from `s` to `e`: the whole state but the fault log and the retained record (R40, R50, R70, R86, R87, R92, R109). -/
def State.haltEntered (s e : State) (n : NodeId) : Prop :=
  (∀ m, e.node m = { NodeLive.start with state := if m = n ∨ s.nodeState m = .failed then .failed else .off }) ∧
    { e with nodes := s.nodes, faults := s.faults, retained := s.retained } =
      { s with
        ready := [], budgetInUse := 0, queue := [], idle := none
        completions := s.ended s.queue .abortedByFault
        monitor := s.monitor.afterLoss s.queue
        button := { s.button with state := .locked, longTimer := none }
        plat := { s.plat with
          phase := .halted, target := none, via := none, recycle := none, exclusion := [], holdTimer := none
          trip := false, inFlight := none } }

/-! ### Wakes -/

/-- The acting entries' causes and their one request, for the highest of their targets, take `e` to `t` (R127, R128, R130). -/
def State.actedOn (e t : State) (acts : Fin 16 → Prop) : Prop :=
  ∃ told : State, { told with causes := e.causes } = e ∧
    ((∃ f, acts f ∧ (e.wakeEntry f).notifiesHost = true) → told.causes.host = e.causes.host ||| 0x0010) ∧
    ((∀ f, acts f → (e.wakeEntry f).notifiesHost = false) → told.causes.host = e.causes.host) ∧
    ((∃ f, acts f ∧ (e.wakeEntry f).notifiesMgmt = true) → told.causes.mgmt = e.causes.mgmt ||| 0x0010) ∧
    ((∀ f, acts f → (e.wakeEntry f).notifiesMgmt = false) → told.causes.mgmt = e.causes.mgmt) ∧
    ((∀ f, acts f → (e.wakeEntry f).targetOf = none) → t = told) ∧
    ∀ f T, acts f → (e.wakeEntry f).targetOf = some T →
      (∀ g U, acts g → (e.wakeEntry g).targetOf = some U → U.rank ≤ T.rank) →
      t = told.arrive (plainRequest .wake .normal T)

/-- The live record after a qualified edge: the debounced level moves, and an edge in the matching direction matches (R124, R125, R127). -/
def State.edgeRecord (s : State) (f : Fin 16) (high : Bool) : WakeLive :=
  if (s.wakeEntry f).matchesHigh = high then
    { level := some high, filter := none, pending := true, lastMatch := some s.uptime }
  else { s.wakeLive f with level := some high, filter := none }

/-- An entry that matches in the direction given acts: pending was clear and the entry is armed (R126, R127). -/
def State.edgeActs (s : State) (f : Fin 16) (high : Bool) : Prop :=
  (s.wakeEntry f).matchesHigh = high ∧ (s.wakeLive f).pending = false ∧ s.plat.phase ≠ .halted ∧
    (s.wakeEntry f).armedAt s.plat.reference = true

/-- Everything R168 stops, from `s` to `t`: nodes as at HALTED entry, every timer and interval, no line watched, a STORE cut short, a frame or transfer in progress abandoned; what it keeps is kept (R38, R40, R123, R161, R168, R174, log 28). -/
def State.stopped (s t : State) : Prop :=
  (∀ n, t.node n = { NodeLive.start with state := if s.nodeState n = .failed then .failed else .off }) ∧
    t.ready = [] ∧ t.budgetInUse = 0 ∧ t.plat = { s.plat with holdTimer := none } ∧ t.idle = none ∧
    t.button = { s.button with filter := none, longTimer := none } ∧ t.monitor = { s.monitor with deadline := none } ∧
    (∀ e, t.wakeLive e = { s.wakeLive e with level := none, filter := none }) ∧ t.transfer = false ∧
    t.frame = (if s.frame = .none then .none else .ignored) ∧ t.storeJob = none ∧
    (∀ i, (t.bank i = s.bank i) ∨ (∃ j, s.storeJob = some j ∧ j.target = i ∧ (t.bank i).mark = false)) ∧
    (∀ j, s.storeJob = some j → (t.bank j.target).mark = false) ∧
    t.uptime = s.uptime ∧ t.address = s.address ∧ t.active = s.active ∧ t.staged = s.staged ∧ t.queue = s.queue ∧
    t.completions = s.completions ∧ t.faults = s.faults ∧ t.mailbox = s.mailbox ∧ t.causes = s.causes ∧
    t.masks = s.masks ∧ t.hostLock = s.hostLock ∧ t.pointer = s.pointer ∧ t.loadedBank = s.loadedBank ∧
    t.imageBad = s.imageBad ∧ t.lineChanges = s.lineChanges ∧ t.pending = s.pending

/-- A node fault that reaches on_fault, from `s` to `e`: the record, then the action (R99, R101, R102, R107, R109). -/
def State.faultTaken (s e : State) (kind : FaultKind) (n : NodeId) : Prop :=
  s.logged e (s.recordOf kind (some n) none (s.actionAt n)) ∧
    match s.actionAt n with
    | .halted => s.haltEntered e n
    | .tripped => s.shedNodes e n ∧ s.tripStarts e n
    | _ => s.shedNodes e n ∧
      { e with nodes := s.nodes, budgetInUse := s.budgetInUse, ready := s.ready, faults := s.faults, retained := s.retained } = s

/-! ### Good and the filter -/

/-- Good becomes present at rail `n`, from `s` to `e`: the end of a SENSED rise, a BACKFEED once per stay in a state without energy, else good alone (R24, R26, R32, R37, R112). -/
def State.tookGood (s e : State) (n : NodeId) : Prop :=
  let s' := s.setNode n { s.node n with good := true, filter := none }
  (s.nodeState n = .rising → (s.node n).mode = some .sensed → s'.riseEnded e n) ∧
    (s.nodeState n = .rising → (s.node n).mode ≠ some .sensed → e = s') ∧
    (s.nodeState n = .settling ∨ s.nodeState n = .on ∨ s.nodeState n = .draining → e = s') ∧
    (s.nodeState n ≠ .rising → s.nodeState n ≠ .settling → s.nodeState n ≠ .on → s.nodeState n ≠ .draining →
      ((s.node n).noted = true → e = s') ∧
      ((s.node n).noted = false → s'.logged e (s'.recordOf .backfeed (some n) none .noted) ∧
        { e with faults := s.faults, retained := s.retained } =
          s.setNode n { s.node n with good := true, filter := none, noted := true }))

/-- Good becomes absent at rail `n`, from `s` to `e`: GOOD_LOST in SETTLING and ON, the end of a SENSED drain, else good alone (R24, R29, R32, R101). -/
def State.lostGood (s e : State) (n : NodeId) : Prop :=
  let s' := s.setNode n { s.node n with good := false, filter := none }
  (s.nodeState n = .settling ∨ s.nodeState n = .on → s'.faultTaken e .goodLost n) ∧
    (s.nodeState n = .draining → (s.node n).mode = some .sensed → s'.turnedOff e n) ∧
    (s.nodeState n = .draining → (s.node n).mode ≠ some .sensed → e = s') ∧
    (s.nodeState n ≠ .settling → s.nodeState n ≠ .on → s.nodeState n ≠ .draining → e = s')

/-- One rail's filter looks at its pin, from `s` to `e`: nothing for a rail that is not sampled; at the level of good the interval stops; at the other one it runs on, starts, or with length 0 good moves at once (R23, R24). -/
def State.pgLooked (s e : State) (rail : RailId) : Prop :=
  let n := railNode rail
  let high := s.inputs.pg[rail]
  if s.sampled rail = false then e = s
  else if high = (s.node n).good then e = s.setNode n { s.node n with filter := none }
  else if (s.node n).filter ≠ none then e = s
  else if s.active.policy.goodFilter ≠ 0 then
    e = s.setNode n { s.node n with filter := some ⟨high, s.active.policy.goodFilter.toNat⟩ }
  else ∃ u, e = u.finish ∧ if high = true then s.tookGood u n else s.lostGood u n

/-- A node's live record after every sampled rail's filter has looked at its pin, with a good filter other than 0 (R23, R24). -/
def State.filterStarted (s : State) (n : NodeId) : NodeLive :=
  if h : n.val < 24 then
    if s.sampled ⟨n.val, h⟩ = false then s.node n
    else if s.inputs.pg[n.val] = (s.node n).good then { s.node n with filter := none }
    else if (s.node n).filter ≠ none then s.node n
    else { s.node n with filter := some ⟨s.inputs.pg[n.val], s.active.policy.goodFilter.toNat⟩ }
  else s.node n

/-- A wake entry's live record once its watching starts: an edge sense takes its line's level; a level sense takes the level opposite to its active one, and an active line starts an interval or, with no debounce, matches at once (R124, R125, R127). -/
def State.watchedAnew (s : State) (e : Fin 16) : WakeLive :=
  let entry := s.wakeEntry e
  if entry.levelSense = false then { s.wakeLive e with level := some (s.lineLevel entry), filter := none }
  else if s.lineLevel entry ≠ entry.matchesHigh then { s.wakeLive e with level := some !entry.matchesHigh, filter := none }
  else if entry.debounce = 0 then
    { level := some entry.matchesHigh, filter := none, pending := true, lastMatch := some s.uptime }
  else { s.wakeLive e with
    level := some !entry.matchesHigh, filter := some ⟨entry.matchesHigh, entry.debounce, entry.debounce, none⟩ }

/-! ### What is due inside an event -/

/-- The DOWN leg is over: every node of the exclusion set is OFF or FAILED (R64). -/
def State.downOver (s : State) : Prop :=
  s.plat.recycle = some .down ∧ ∀ n ∈ s.plat.exclusion, s.nodeState n = .off ∨ s.nodeState n = .failed

/-- The settle check succeeds: a transition in flight, outside the DOWN and HOLD legs, with every used node conforming to the governing level (R57). -/
def State.settleDue (s : State) : Prop :=
  s.plat.phase.inFlight = true ∧ s.plat.recycle ≠ some .down ∧ s.plat.recycle ≠ some .hold ∧
    ∃ L, s.plat.governing = some L ∧ ∀ n, s.conforms L n = true

/-- A FORCED entry is handed to the engine: trip is no and the queue holds one (R83). -/
def State.forcedDue (s : State) : Prop := s.plat.trip = false ∧ ∃ r ∈ s.queue, r.kind = .forced

/-- The head of the ready queue fits the room in the budget (R45). -/
def State.headFits (s : State) (n : NodeId) : Prop :=
  (∃ x rest, s.ready = x :: rest ∧ x.node = n) ∧
    s.budgetInUse + (s.record n).weight.toNat ≤ s.active.policy.budget.toNat

/-- Nothing is due before the grant rule: no leg, settle, handover, repair or take (R45, R57, R64, R71, R72, R83). -/
def State.onlyGrantsLeft (s : State) : Prop :=
  ¬s.downOver ∧ ¬s.settleDue ∧ ¬s.forcedDue ∧
    (s.plat.phase = .settled → (∀ n, s.conforms s.plat.settled n = true) ∧ s.queue = [])

/-- The state after the DOWN leg's end: the HOLD leg and its timer (R64, R65). -/
def State.heldAt (s : State) : State :=
  { s with plat := { s.plat with recycle := some .hold, holdTimer := some (10 * s.active.policy.recycleHold.toNat) } }

/-- The state after the start of a repair: towards the settled level, with no request (R71). -/
def State.repairing (s : State) : State :=
  { s with
    idle := none
    plat :=
      { settled := s.plat.settled, phase := .rising, target := some s.plat.settled, via := none, recycle := none
        exclusion := [], holdTimer := none, trip := false, tripped := s.plat.tripped, degraded := s.plat.degraded
        inFlight := none } }

/-! ### COMMIT -/

/-- A node's live record after the sampling of its PG input has started or stopped by the staged set: stopped, good is absent; started, good is present in SETTLING and ON; either way no filter interval runs (R23, R39). -/
def State.resampled (s : State) (n : NodeId) : NodeLive :=
  let was := (s.active.node n).used && (s.active.node n).senses n
  let is := (s.staged.node n).used && (s.staged.node n).senses n
  if was = is then s.node n
  else { s.node n with good := is && (s.nodeState n == .settling || s.nodeState n == .on), filter := none }

/-- The staged set in force, with the sampling it asks for (R39, R157). -/
def State.adopted (s : State) : State :=
  { s with active := s.staged, nodes := Vector.ofFn s.resampled }

/-- COMMIT takes down `n`: energized, and either without some prerequisite of its new record in ON, or a transitive dependent of such a node (R39). -/
def State.adoptDrops (s : State) (n : NodeId) : Bool :=
  (s.nodeState n).energized &&
    (s.staged.closeDependents 32 (allNodes.filter fun m =>
      (s.nodeState m).energized && (s.staged.node m).prereqs.any fun q => s.nodeState q != .on)).contains n

/-- COMMIT makes `n` UNUSED while it is FAILED (R39). -/
def State.adoptClears (s : State) (n : NodeId) : Bool := s.nodeState n == .failed && !(s.staged.node n).used

/-- A node's live record after an accepted COMMIT and before its reaction (R39). -/
def State.adoptedRecord (s : State) (n : NodeId) : NodeLive :=
  if s.adoptDrops n then s.adopted.droppedRecord n
  else if s.adoptClears n then
    { s.adopted.node n with
      state := .off, rise := none, hold := none, fall := none, charge := none, mode := none, noted := false }
  else s.adopted.node n

/-- The copy and its effects on nodes, budget, ready queue, monitor and idle timer, from `s` to `a` (R39, R47, R95, R149, R157). -/
def State.carried (s a : State) : Prop :=
  { a with active := s.active, nodes := s.nodes, budgetInUse := s.budgetInUse, ready := s.ready, monitor := s.monitor
           idle := s.idle } = s ∧
    a.active = s.staged ∧ (∀ n, a.node n = s.adoptedRecord n) ∧
    a.budgetInUse = s.budgetInUse -
      (allNodes.map fun n => if s.adoptDrops n || s.adoptClears n then (s.node n).charge.getD 0 else 0).sum ∧
    a.ready = (s.ready.filter fun x => !(s.adoptClears x.node || (s.adoptDrops x.node && isGate x.node))) ∧
    a.monitor = (if (s.active.plan.count ≠ s.staged.plan.count ∨ s.active.plan.active ≠ s.staged.plan.active) ∧
        s.monitor.state.due ≠ none then { s.monitor with state := .idle, deadline := none } else s.monitor) ∧
    a.idle = if s.staged.policy.autoDeepDelay = 0 then none
      else if s.plat.phase = .settled ∧ s.plat.settled = .standby ∧ s.idle = none then some s.staged.policy.autoDeepMs
      else s.idle

/-- A wake entry's line or sense changes by the COMMIT (R132). -/
def State.rewires (s : State) (e : Fin 16) : Bool :=
  s.active.wake[e].line != s.staged.wake[e].line || s.active.wake[e].sense != s.staged.wake[e].sense

/-- Watching starts at this entry by the COMMIT (R132). -/
def State.startsAt (s : State) (e : Fin 16) : Bool :=
  s.staged.wake[e].enabled && (s.rewires e || !s.active.wake[e].enabled)

/-- A level-sense entry whose watching starts on an active line with no debounce matches at once (R124, R132). -/
def State.matchesAtOnce (s : State) (e : Fin 16) : Bool :=
  s.startsAt e && s.staged.wake[e].levelSense && s.staged.wake[e].debounce == 0 &&
    s.lineLevel s.staged.wake[e] == s.staged.wake[e].matchesHigh

/-- A wake entry's live record after an accepted COMMIT (R124, R125, R132). -/
def State.rewatched (s : State) (e : Fin 16) : WakeLive :=
  let entry := s.staged.wake[e]
  let w : WakeLive := if s.rewires e then { level := none, filter := none, pending := false, lastMatch := none }
    else s.wakeLive e
  if !entry.enabled then { w with level := none, filter := none }
  else if !s.startsAt e then w
  else if !entry.levelSense then { w with level := some (s.lineLevel entry), filter := none }
  else if s.matchesAtOnce e then
    { level := some entry.matchesHigh, filter := none, pending := true, lastMatch := some s.uptime }
  else { w with
    level := some !entry.matchesHigh
    filter := if s.lineLevel entry = entry.matchesHigh then
      some ⟨entry.matchesHigh, entry.debounce, entry.debounce, none⟩ else none }

/-! ### The window -/

/-- The two bytes a port reads at an address and the next, low byte first (R182). -/
def State.windowWord (s : State) (p : Port) (addr : Word) : Word := s.windowByte p (addr + 1) ++ s.windowByte p addr

/-- The four bytes a port reads from an address on, low byte first (R182). -/
def State.windowDword (s : State) (p : Port) (addr : Word) : Dword := s.windowWord p (addr + 2) ++ s.windowWord p addr

/-- The bytes of a node record, a wake entry, a stage, a policy record and a request, in address order (R182). -/
def recordLayouts : Prop :=
  ∀ (r : NodeRecord) (e : WakeEntry) (g : Stage) (q : Request) (y : Policy),
  let low := fun (w : Word) => (w.truncate 8 : Byte)
  let high := fun (w : Word) => ((w >>> 8).truncate 8 : Byte)
  (List.range 15).map r.byte = [r.level, r.slots[0], r.slots[1], r.slots[2], r.slots[3], r.flags, r.weight, r.priority,
      r.retries, low r.riseTime, high r.riseTime, low r.settleHold, high r.settleHold, low r.fallTime, high r.fallTime] ∧
    (List.range 5).map e.byte = [e.control, e.line, e.armed, e.target, e.notify] ∧
    (List.range 7).map g.byte = [low g.lo, high g.lo, low g.hi, high g.hi, low g.deadline, high g.deadline, g.action] ∧
    (List.range 15).map y.byte = [y.budget, y.goodFilter, y.tripLevel, y.resumePolicy, y.buttonDebounce, y.longPress,
      y.buttonFloor, y.autoDeepDelay, y.autoDeepUnit, y.hostTargets, y.hostNode, y.recycleHold, y.monitorDefault,
      y.recoveryLimit, y.alternateAllowed] ∧
    q.byte 0 = q.source.code ∧ q.byte 1 = q.kind.code ∧ q.byte 2 = BitVec.ofNat 8 q.target.rank ∧
    (∀ v, q.via = some v → q.byte 3 = BitVec.ofNat 8 v.rank) ∧
    q.byte 4 = (if q.recycle then 1 else 0) ||| (if q.alternate then 2 else 0) ||| (if q.tag.isSome then 4 else 0) ∧
    ∀ t, q.tag = some t → q.byte 5 = t

/-- The encodings of section 11.7 and R179, value by value from 0. -/
def fieldCodes : Prop :=
  [Level.deep, .standby, .park, .run].map levelCode = [0, 1, 2, 3] ∧
    [Phase.settled, .rising, .falling, .recycling, .halted].map Phase.code = [0, 1, 2, 3, 4] ∧
    [NodeState.off, .waiting, .held, .ready, .rising, .settling, .on, .draining, .failed].map NodeState.code =
      [0, 1, 2, 3, 4, 5, 6, 7, 8] ∧
    [Source.hport, .mport, .button, .wake, .watch, .resume, .idle].map Source.code = [0, 1, 2, 3, 4, 5, 6] ∧
    [Kind.normal, .forced].map Kind.code = [0, 1] ∧
    [Ending.done, .noChange, .superseded, .cancelled, .abortedByFault].map Ending.code = [0, 1, 2, 3, 4] ∧
    [FaultKind.riseTimeout, .goodLost, .fallTimeout, .backfeed, .stageExpiry].map FaultKind.code = [0, 1, 2, 3, 4] ∧
    [FaultAction.retried, .shed, .tripped, .halted, .noted, .warm, .cold, .alternate, .holdOff].map FaultAction.code =
      [0, 1, 2, 3, 4, 5, 6, 7, 8] ∧
    [Result.ok, .accepted, .invalid, .denied, .busy, .halted, .stale, .inFlight, .cls, .validation, .liveConflict,
      .storeFailed].map Result.code = [0, 1, 2, 3, 4, 5, 6, 7, 8, 9, 10, 11]

/-- A flag at bit `i` of a byte. -/
def flagAt (b : Bool) (i : Nat) : Byte := if b then 1#8 <<< i else 0#8

/-- Identity and the platform record, 0x0000 to 0x000F (R182). -/
def State.showsIdentity (s : State) (p : Port) : Prop :=
  let reads := s.windowByte p
  reads 0x0000 = 0xA7 ∧ reads 0x0001 = 0x18 ∧ reads 0x0002 = 0x01 ∧
    reads 0x0003 = flagAt s.imageBad 0 ||| flagAt s.retained.lost 1 ||| flagAt s.hostLock 2 ||| flagAt s.hostLive 3 ∧
    s.windowDword p 0x0004 = s.uptime ∧ reads 0x0008 = levelCode s.plat.settled ∧
    reads 0x0009 = (match s.plat.phase with
      | .settled => 0
      | .rising => 1
      | .falling => 2
      | .recycling => 3
      | .halted => 4) ∧
    reads 0x000A = (s.plat.target.map levelCode).getD 0xFF ∧ reads 0x000B = (s.plat.via.map levelCode).getD 0xFF ∧
    reads 0x000C = (match s.plat.recycle with
      | some .down => 0
      | some .hold => 1
      | some .up => 2
      | none => 0xFF) ∧
    reads 0x000D = flagAt s.plat.trip 0 ||| flagAt s.plat.tripped 1 ||| flagAt s.plat.degraded 2 ∧
    s.windowWord p 0x000E = (s.plat.holdTimer.map (BitVec.ofNat 16)).getD 0xFFFF

/-- The banked areas: mailbox, causes, masks, completions, 0x0010 to 0x0066 (R182). -/
def State.showsMailbox (s : State) (p : Port) : Prop :=
  let reads := s.windowByte p
  (∀ i : Fin 16, reads (0x0010 + BitVec.ofNat 16 i.val) = (s.mailbox.get p).args[i]) ∧
    reads 0x0020 = (s.mailbox.get p).command ∧
    reads 0x0021 = (match (s.mailbox.get p).status with
      | .idle => 0
      | .busy => 1
      | .done => 2) ∧
    reads 0x0022 = (s.mailbox.get p).result.code ∧ reads 0x0023 = (s.mailbox.get p).detail.table ∧
    reads 0x0024 = (s.mailbox.get p).detail.index ∧ reads 0x0025 = (s.mailbox.get p).detail.reason ∧
    s.windowWord p 0x0040 = s.pendingCauses p ∧ s.windowWord p 0x0042 = 0 ∧ s.windowWord p 0x0044 = s.masks.get p ∧
    reads 0x0060 = BitVec.ofNat 8 (s.completions.get p).length ∧
    (s.completions.get p = [] → s.windowDword p 0x0061 = 0) ∧
    (∀ c rest, s.completions.get p = c :: rest → reads 0x0061 = c.tag ∧ reads 0x0062 = c.ending.code ∧
      reads 0x0063 = levelCode c.settled ∧ reads 0x0064 = flagAt c.degraded 0) ∧
    reads 0x0065 = BitVec.ofNat 8 (s.queuedOf p) ∧ reads 0x0066 = BitVec.ofNat 8 (s.inFlightOf p)

/-- Fault log head, request queue and request in flight, 0x0080 to 0x00C5 (R182). -/
def State.showsQueues (s : State) (p : Port) : Prop :=
  let reads := s.windowByte p
  (∀ f rest, s.faults.log = f :: rest → s.windowWord p 0x0080 = f.seq ∧ reads 0x0082 = f.kind.code ∧
      (∀ n, f.node = some n → reads 0x0083 = BitVec.ofNat 8 n.val) ∧
      (∀ st, f.nodeState = some st → (reads 0x0084).truncate 4 = st.code.truncate 4) ∧
      (∀ k, f.stage = some k → reads 0x0085 = BitVec.ofNat 8 k) ∧ reads 0x0086 = levelCode f.settled ∧
      reads 0x0087 = f.phase.code ∧ (∀ L, f.target = some L → reads 0x0088 = levelCode L) ∧ reads 0x0089 = f.action.code ∧
      s.windowDword p 0x008A = f.uptime ∧ s.windowWord p 0x008E = 0) ∧
    (s.faults.log = [] → ∀ i : Fin 16, reads (0x0080 + BitVec.ofNat 16 i.val) = 0) ∧
    reads 0x0090 = BitVec.ofNat 8 s.faults.log.length ∧ reads 0x0091 = flagAt s.faults.overflow 0 ∧
    s.windowWord p 0x0092 = s.faults.nextSeq ∧ reads 0x0094 = BitVec.ofNat 8 s.queue.length ∧
    (∀ i : Fin 7, ∀ r, s.queue[i.val]? = some r → ∀ j : Fin 6,
      reads (0x0096 + BitVec.ofNat 16 (6 * i.val + j.val)) = r.byte j.val) ∧
    (∀ i : Fin 7, s.queue[i.val]? = none → ∀ j : Fin 6, reads (0x0096 + BitVec.ofNat 16 (6 * i.val + j.val)) = 0) ∧
    (∀ r, s.plat.inFlight = some r → ∀ j : Fin 6, reads (0x00C0 + BitVec.ofNat 16 j.val) = r.byte j.val) ∧
    (s.plat.inFlight = none → reads 0x00C0 = 0xFF ∧ s.windowDword p 0x00C1 = 0 ∧ reads 0x00C5 = 0)

/-- Button, budget, idle timer, banks and ready queue, 0x00C6 to 0x00FF (R182). -/
def State.showsBlock (s : State) (p : Port) : Prop :=
  let reads := s.windowByte p
  reads 0x00C6 = (match s.button.state with
      | .locked => 0
      | .released => 1
      | .pressed => 2
      | .long => 3) ||| flagAt s.button.pressed 7 ∧
    reads 0x00C7 = BitVec.ofNat 8 s.budgetInUse ∧
    s.windowDword p 0x00C8 = (s.idle.map (BitVec.ofNat 32)).getD 0xFFFFFFFF ∧
    reads 0x00CC = flagAt (Bank.valid s.bank0) 0 ||| flagAt (Bank.valid s.bank1) 1 ∧
    reads 0x00CD = (match s.loadedBank with
      | some .bank0 => 0
      | some .bank1 => 1
      | none => 0xFF) ∧
    s.windowWord p 0x00CE = s.bank0.generation ∧ s.windowWord p 0x00D0 = s.bank1.generation ∧
    reads 0x00DF = BitVec.ofNat 8 s.ready.length ∧
    ∀ i : Fin 32, reads (0x00E0 + BitVec.ofNat 16 i.val) = (s.ready[i.val]?.map fun x => BitVec.ofNat 8 x.node.val).getD 0

/-- Monitor status and progress log, 0x0100 to 0x01FF (R182). -/
def State.showsMonitor (s : State) (p : Port) : Prop :=
  let reads := s.windowByte p
  s.windowWord p 0x0100 = 0 ∧
    reads 0x0102 = (match s.monitor.state with
      | .disabled => 0
      | .idle => 1
      | .armed _ => 2
      | .stalled _ => 3
      | .recovering => 4
      | .complete => 5) ∧
    reads 0x0103 = (s.monitor.state.due.map (BitVec.ofNat 8)).getD 0xFF ∧
    s.windowDword p 0x0104 = (s.monitor.deadline.map (BitVec.ofNat 32)).getD 0xFFFFFFFF ∧
    reads 0x0108 = BitVec.ofNat 8 s.monitor.recoveryCount ∧ reads 0x0109 = BitVec.ofNat 8 s.monitor.skipCount ∧
    s.windowWord p 0x010A = s.monitor.postCount ∧ reads 0x010C = BitVec.ofNat 8 s.monitor.log.length ∧
    (∀ i : Fin 32, ∀ e, s.monitor.log[i.val]? = some e →
      s.windowWord p (0x0140 + BitVec.ofNat 16 (6 * i.val)) = e.code ∧
        s.windowDword p (0x0142 + BitVec.ofNat 16 (6 * i.val)) = e.uptime) ∧
    ∀ i : Fin 32, s.monitor.log[i.val]? = none →
      s.windowWord p (0x0140 + BitVec.ofNat 16 (6 * i.val)) = 0 ∧
        s.windowDword p (0x0142 + BitVec.ofNat 16 (6 * i.val)) = 0

/-- The active node table, 0x0200 to 0x03FF (R182). -/
def State.showsNodes (s : State) (p : Port) : Prop :=
  let reads := s.windowByte p
  ∀ n : NodeId, (∀ i : Fin 15, reads (0x0200 + BitVec.ofNat 16 (16 * n.val + i.val)) = (s.record n).byte i.val) ∧
    reads (0x020F + BitVec.ofNat 16 (16 * n.val)) =
      (s.nodeState n).code ||| (BitVec.ofNat 8 ((s.node n).retry % 4) <<< 4) ||| flagAt (s.node n).good 6 |||
        flagAt (s.node n).noted 7

/-- The active wake table, 0x0600 to 0x069F (R182); the bytes of an absent last match are not stated (log 20). -/
def State.showsWakes (s : State) (p : Port) : Prop :=
  let reads := s.windowByte p
  ∀ e : Fin 16, (∀ i : Fin 5, reads (0x0600 + BitVec.ofNat 16 (10 * e.val + i.val)) = (s.wakeEntry e).byte i.val) ∧
    reads (0x0605 + BitVec.ofNat 16 (10 * e.val)) = flagAt (s.wakeLive e).pending 0 ||| flagAt (s.wakeLive e).level.isSome 1 |||
      flagAt ((s.wakeLive e).level == some true) 2 ||| flagAt (s.wakeLive e).lastMatch.isSome 3 ∧
    ∀ t, (s.wakeLive e).lastMatch = some t → s.windowDword p (0x0606 + BitVec.ofNat 16 (10 * e.val)) = t

/-- The active plan and policy record, 0x0700 to 0x080E (R182). -/
def State.showsPlan (s : State) (p : Port) : Prop :=
  let reads := s.windowByte p
  reads 0x0700 = s.active.plan.count ∧
    (∀ k : Fin 16, ∀ i : Fin 7, reads (0x0710 + BitVec.ofNat 16 (7 * k.val + i.val)) = (s.active.plan.stages[k]).byte i.val) ∧
    ∀ i : Fin 15, reads (0x0800 + BitVec.ofNat 16 i.val) = s.active.policy.byte i.val

/-- The retained record, 0x0900 to 0x091F (R182); the bytes of an absent first fault are not stated (log 20). -/
def State.showsRetained (s : State) (p : Port) : Prop :=
  let reads := s.windowByte p
  reads 0x0900 = flagAt s.retained.mark 0 ∧ reads 0x0901 = (s.retained.lastSettled.map levelCode).getD 0xFF ∧
    reads 0x0902 = flagAt s.retained.bsel 0 ∧
    reads 0x0903 = (match s.retained.startCause with
      | .standbyPower => 0
      | .externalReset => 1) ∧
    reads 0x0904 = flagAt s.retained.lost 0 ∧ reads 0x0905 = flagAt s.retained.firstFault.isSome 0 ∧
    ∀ f, s.retained.firstFault = some f → ∀ i : Fin 16, reads (0x0910 + BitVec.ofNat 16 i.val) = f.byte i.val

/-- The staged set, which only the Management Port reads (R177, R182). -/
def State.showsStaged (s : State) (p : Port) : Prop :=
  let reads := s.windowByte p
  p = .mgmt →
    (∀ n : NodeId, (∀ i : Fin 15, reads (0x0400 + BitVec.ofNat 16 (16 * n.val + i.val)) = (s.staged.node n).byte i.val) ∧
      reads (0x040F + BitVec.ofNat 16 (16 * n.val)) = 0) ∧
    (∀ e : Fin 16, ∀ i : Fin 5, reads (0x06A0 + BitVec.ofNat 16 (5 * e.val + i.val)) = (s.staged.wake[e]).byte i.val) ∧
    reads 0x0780 = s.staged.plan.count ∧
    (∀ k : Fin 16, ∀ i : Fin 7, reads (0x0790 + BitVec.ofNat 16 (7 * k.val + i.val)) = (s.staged.plan.stages[k]).byte i.val) ∧
    ∀ i : Fin 15, reads (0x0820 + BitVec.ofNat 16 i.val) = s.staged.policy.byte i.val

/-- An unmapped location reads 0 (R172, R182). -/
def State.showsUnmapped (s : State) (p : Port) : Prop :=
  let reads := s.windowByte p
  ∀ a : Word, 0x0920 ≤ a.toNat ∨ a.toNat = 0x0095 ∨ (0x0026 ≤ a.toNat ∧ a.toNat < 0x0040) ∨
    (0x0046 ≤ a.toNat ∧ a.toNat < 0x0060) ∨ (0x0067 ≤ a.toNat ∧ a.toNat < 0x0080) ∨
    (0x00D2 ≤ a.toNat ∧ a.toNat < 0x00DF) ∨ (0x010D ≤ a.toNat ∧ a.toNat < 0x0140) ∨
    (0x0701 ≤ a.toNat ∧ a.toNat < 0x0710) ∨ (0x080F ≤ a.toNat ∧ a.toNat < 0x0820) ∨
    (0x082F ≤ a.toNat ∧ a.toNat < 0x0900) ∨ (0x0906 ≤ a.toNat ∧ a.toNat < 0x0910) ∨
    (0x06F0 ≤ a.toNat ∧ a.toNat < 0x0700) ∨ (0x0781 ≤ a.toNat ∧ a.toNat < 0x0790) → reads a = 0

end Sys2Proof.Machine
end

