-- ==== Sys2Proof/Certificates/Slice0/Obligations.lean ====
section
/-! DEFINITION. The statements for the provers. `State.finish` is the part's joint reaction to an event; ReactionTouchesOnlySequencing and ReactionAtRestChangesNothing say what it can do. -/

section

open Sys2Proof Sys2Proof.Machine

/-! ### Steps -/

/-- A step takes the command at the front of the queue and runs it with the rest. -/
def Obligations.StepRunsTheFrontCommand : Prop :=
  ∀ (c : Instr) (s : State) (rest : List Instr), s.pending = c :: rest → step s = exec c (s.withPending rest)

/-- On an empty queue a step is one millisecond (the model's choice, log 3): each timer and each filter and debounce interval of the running part that runs has one ms less left, uptime counts from the start event, and everything else stays. That uptime counts while loading and running and stands still otherwise is log 6. -/
def Obligations.EmptyQueueIsOneMillisecond : Prop :=
  ∀ s : State, s.pending = [] →
    ((s.power = .unpowered ∨ s.power = .resetInterval) → step s = .next s) ∧
    (s.power = .loading → step s = .next { s with uptime := s.uptime + 1 }) ∧
    (s.power = .running → ∃ t, step s = .next t ∧ t.uptime = s.uptime + 1 ∧ t.idle = s.idle.map (· - 1) ∧
      t.plat = { s.plat with holdTimer := s.plat.holdTimer.map (· - 1) } ∧
      t.monitor = { s.monitor with deadline := s.monitor.deadline.map (· - 1) } ∧
      t.button = { s.button with
        longTimer := s.button.longTimer.map (· - 1)
        filter := s.button.filter.map fun i => ⟨i.toward, i.left - 1⟩ } ∧
      (∀ n, t.node n = { s.node n with
        rise := (s.node n).rise.map (· - 1), hold := (s.node n).hold.map (· - 1), fall := (s.node n).fall.map (· - 1)
        filter := (s.node n).filter.map fun i => ⟨i.toward, i.left - 1⟩ }) ∧
      (∀ e, t.wakeLive e = { s.wakeLive e with
        filter := (s.wakeLive e).filter.map fun i => ⟨i.toward, i.length, i.left - 1, i.change⟩ }) ∧
      { t with
        uptime := s.uptime, idle := s.idle, plat := s.plat, monitor := s.monitor, button := s.button, nodes := s.nodes
        wakes := s.wakes } = s)

/-- No command stops the part or touches the command queue; outside the running phase only the supply, reset, load and frame commands act, and the pins still move; a byte written or read that does not reach the part does nothing. That commands which cannot occur change nothing, and that the input pins are followed in every phase, are the model's choices (log 5, log 25). By which frames and transfers a byte reaches the part is log 8. -/
def Obligations.CommandsNeverStopThePart : Prop :=
  (∀ (c : Instr) (s : State), ∃ t, exec c s = .next t ∧ t.pending = s.pending) ∧
    (∀ (c : Instr) (s : State), s.power ≠ .running → c.supplies = false → exec c s = .next (s.withPin c)) ∧
    (∀ (c : Instr) (s : State) (p : Port) (addr : Word), c.byteAt = some (p, addr) → s.takesByte p addr = false →
      exec c s = .next s) ∧
    ∀ (s : State) (p : Port) (addr : Word), s.takesRead p addr = false → exec (.forbiddenRead p addr) s = .next s

/-! ### The joint reaction -/

/-- The frame of the joint reaction: everything but the nodes, budget, ready queue, platform record, requests and their completions, idle timer, SETTLED cause, monitor state with its deadline and skip count, retained level and boot-select value, and the Host Port's frame. -/
def Obligations.ReactionTouchesOnlySequencing : Prop :=
  ∀ s : State, s.finish.outside = s.outside

/-- What the joint reaction is. The nodes act by their own rules until none can: placement, OFF, the ways down (R21, R22, R30, R31, R54). Then one move: the DOWN leg's end (R64, R65), a via settle or a settle (R57, R58, R59, R60, R61, R62, R88, R95, R141), a waiting FORCED request (R67, R83, R87), a repair (R71), the queue head with its NO_CHANGE test (R55, R56, R72), or a grant (R25, R45); and again, until nothing is due. Last, a port gone inert abandons its frame (R174); that it is tested on the state the reaction leaves is log 34. A state with nothing left to react to is its own reaction. The order of moves that no rule orders is log 11; the bounds on rounds and moves are log 22. That a RUN report in RECOVERING with an empty plan changes nothing is the model's choice too (log 31). That a rise or fall keeps the good_mode it began with is log 27. Where the active set holds a value outside its encoding or range, the reading is the model's choice (log 23). -/
def Obligations.ReactionAtRestChangesNothing : Prop :=
  (∀ s : State, s.quiet → s.finish = s) ∧
    (∀ s : State, s.finish =
      let t := State.react Config.moveFuel s
      if t.frame.taken = true ∧ t.hostLive = false then { t with frame := .ignored } else t) ∧
    (∀ (s : State) (n : NodeId),
      (s.plat.excludes n = true ↔ (s.plat.recycle = some .down ∨ s.plat.recycle = some .hold) ∧ n ∈ s.plat.exclusion) ∧
      (s.wanted n = true ↔ s.nodeState n ≠ .failed ∧ s.plat.excludes n = false ∧
        ∃ L, s.plat.governing = some L ∧ (s.record n).memberOf L = true) ∧
      (s.heldUp n = true ↔ ∃ m, (s.record m).used = true ∧ n ∈ (s.record m).prereqs ∧
        ((s.nodeState m).energized = true ∨ s.nodeState m = .draining)) ∧
      ∀ L, s.conforms L n = true ↔ ((s.record n).used = true →
        if (s.record n).memberOf L = true ∧ s.plat.excludes n = false then
          s.nodeState n = .on ∨ s.nodeState n = .held ∨ s.nodeState n = .failed
        else s.nodeState n = .off ∨ s.nodeState n = .failed)) ∧
    (∀ (s : State) (n : NodeId),
      (s.nodeState n = .draining ∨ s.nodeState n = .failed ∨ (s.nodeState n = .off ∧ s.wanted n = false) ∨
        ((s.nodeState n).energized = true ∧ s.wanted n = true) ∨ (s.nodeState n = .on ∧ s.heldUp n = true) →
          s.nodeTurn n = s) ∧
      (s.nodeState n = .waiting ∨ s.nodeState n = .held ∨ s.nodeState n = .ready → s.wanted n = false →
        s.turnedOff (s.nodeTurn n) n) ∧
      (s.nodeState n = .off ∨ s.nodeState n = .waiting ∨ s.nodeState n = .held ∨ s.nodeState n = .ready →
        s.wanted n = true → ∃ st, s.placedAs n st ∧
          if st = s.nodeState n then s.nodeTurn n = s else s.placed (s.nodeTurn n) n st) ∧
      (s.nodeState n = .rising ∨ s.nodeState n = .settling ∨ (s.nodeState n = .on ∧ s.heldUp n = false) →
        s.wanted n = false → s.dropped (s.nodeTurn n) n)) ∧
    (∀ s : State, (s.still = true ↔ ∀ n, s.nodeTurn n = s) ∧
      ∀ k, State.standstill (k + 1) s = if s.still = true then s else State.standstill k (allNodes.foldl State.nodeTurn s)) ∧
    (∀ (s : State) (k : Nat), (State.standstill Config.roundFuel s).still = true →
      State.react (k + 1) s = State.react (k + 1) (State.standstill Config.roundFuel s)) ∧
    ∀ (s : State) (k : Nat), s.still = true →
      (s.plat.phase = .halted → State.react (k + 1) s = s) ∧
      (s.plat.phase ≠ .halted →
        (s.downOver → State.react (k + 1) s = State.react k s.heldAt) ∧
        (s.settleDue → ∀ v, s.plat.via = some v → State.react (k + 1) s = State.react k (s.viaSettledAt v)) ∧
        (s.settleDue → s.plat.via = none → ∀ T, s.plat.target = some T →
          State.react (k + 1) s = State.react k (s.settledAt T)) ∧
        (¬s.downOver → ¬s.settleDue → s.plat.trip = false → ∀ r, s.queue.find? (fun q => q.kind == .forced) = some r →
          State.react (k + 1) s =
            State.react k (State.overtakenBy { s with queue := s.queue.filter fun q => q.source != r.source } r)) ∧
        (¬s.forcedDue → s.plat.phase = .settled → (∃ n, s.conforms s.plat.settled n = false) → ¬s.downOver →
          State.react (k + 1) s = State.react k s.repairing) ∧
        (¬s.forcedDue → s.plat.phase = .settled → (∀ n, s.conforms s.plat.settled n = true) → ¬s.downOver →
          ∀ r rest, s.queue = r :: rest →
            State.react (k + 1) s = State.react k (State.takenInSettled { s with queue := rest } r)) ∧
        (s.onlyGrantsLeft → ∀ n, s.headFits n → ∃ e, s.granted e n ∧ State.react (k + 1) s = State.react k e) ∧
        (s.onlyGrantsLeft → (∀ n, ¬s.headFits n) → State.react (k + 1) s = s))

/-- At rest in SETTLED every used node conforms to the settled level and the request queue is empty; at rest outside HALTED the queue holds FORCED requests only during a trip (R71, R79). A step of the running part from a lawful state at rest ends at rest; that the reaction's bounds are wide enough for it is log 22. -/
def Obligations.AtRestSettledMeansConforming : Prop :=
  (∀ s : State, s.atRest = true → s.plat.phase ≠ .halted →
    (s.plat.phase = .settled → (∀ n, s.conforms s.plat.settled n = true) ∧ s.queue = []) ∧
      ∀ r ∈ s.queue, r.kind = .forced → s.plat.trip = true) ∧
    ∀ s t : State, s.lawful → (s.power = .running → s.quiet) → step s = .next t → t.power = .running → t.quiet

/-! ### Reset -/

/-- Right after the start event of a new board: the start values the spec gives, no power-up record, no command waiting. That reset is the moment right after the start event, with the image load running, is the model's choice (log 1). -/
def Obligations.ResetIsTheStartEventOfANewBoard : Prop :=
  State.reset.power = .loading ∧ State.reset.uptime = 0 ∧ State.reset.pointer = 0 ∧ State.reset.stepFour = false ∧
    (∀ n, State.reset.nodeState n = .off ∧ (State.reset.node n).rise = none ∧ (State.reset.node n).hold = none ∧
      (State.reset.node n).fall = none ∧ (State.reset.node n).retry = 0 ∧ (State.reset.node n).good = false ∧
      (State.reset.node n).filter = none ∧ (State.reset.node n).noted = false ∧ (State.reset.node n).charge = none) ∧
    State.reset.budgetInUse = 0 ∧ State.reset.ready = [] ∧
    State.reset.plat.settled = .deep ∧ State.reset.plat.phase = .settled ∧ State.reset.plat.target = none ∧
    State.reset.plat.via = none ∧ State.reset.plat.recycle = none ∧ State.reset.plat.holdTimer = none ∧
    State.reset.plat.trip = false ∧ State.reset.plat.tripped = false ∧ State.reset.plat.degraded = false ∧
    State.reset.plat.inFlight = none ∧ State.reset.queue = [] ∧ (∀ p, State.reset.completions.get p = []) ∧
    State.reset.hostLock = false ∧ State.reset.button.state = .locked ∧ State.reset.button.pressed = true ∧
    State.reset.button.longTimer = none ∧ State.reset.idle = none ∧ State.reset.faults.log = [] ∧
    State.reset.faults.nextSeq = 0 ∧ State.reset.faults.overflow = false ∧
    (∀ e, (State.reset.wakeLive e).pending = false ∧ (State.reset.wakeLive e).lastMatch = none) ∧
    State.reset.monitor.log = [] ∧ State.reset.monitor.postCount = 0 ∧ State.reset.monitor.holding = 0 ∧
    State.reset.monitor.recoveryCount = 0 ∧ State.reset.monitor.skipCount = 0 ∧ State.reset.monitor.deadline = none ∧
    (∀ p, (State.reset.mailbox.get p).status = .idle ∧ State.reset.causes.get p = 0 ∧ State.reset.masks.get p = 0) ∧
    State.reset.storeJob = none ∧ State.reset.bank0.mark = false ∧ State.reset.bank1.mark = false ∧
    State.reset.retained.valid = false ∧ State.reset.pending = []

/-- Every law holds at reset. It rests on the reset values the model names (log 1, log 2). -/
def Obligations.LawsHoldAtReset : Prop := State.reset.lawful

/-! ### What the levels, pins and trip levels mean -/

/-- Membership of a platform level, its nesting, and DEEP without members (R3). That a level byte above 3 is no level, so that its node is a member of none, is the model's choice (log 23). -/
def Obligations.MembershipNestsByLevel : Prop :=
  (∀ (r : NodeRecord) (L : Level),
    r.memberOf L = true ↔ (r.level = 1 ∧ 1 ≤ L.rank) ∨ (r.level = 2 ∧ 2 ≤ L.rank) ∨ (r.level = 3 ∧ 3 ≤ L.rank)) ∧
    (∀ (r : NodeRecord) (L M : Level), L.rank ≤ M.rank → r.memberOf L = true → r.memberOf M = true) ∧
    ∀ r : NodeRecord, r.memberOf .deep = false

/-- The governing level and the reference level by phase (R53); the effective trip level by the trip level of the policy record and the failing node's level (R106); degraded (R59); the dependents and transitive dependents of a node and the recycle exclusion set (R6, R63). That a byte which no encoding names lists no node and gives no level is the model's choice (log 23). -/
def Obligations.GoverningLevelFollowsPhase : Prop :=
  (∀ p : Platform,
    (p.phase = .settled → p.governing = some p.settled ∧ p.reference = p.settled) ∧
    (p.phase = .halted → p.governing = none ∧ p.reference = p.settled) ∧
    (p.phase = .rising ∨ p.phase = .falling → ∀ v, p.via = some v → p.governing = some v) ∧
    (p.phase.inFlight = true → p.via = none → p.governing = p.target) ∧
    (p.phase.inFlight = true → ∀ t, p.target = some t → p.reference = t)) ∧
  (∀ (s : State) (n : NodeId),
    (s.active.policy.tripLevel = 0 → s.effectiveTripLevel n = .deep) ∧
    (s.active.policy.tripLevel = 1 → (s.record n).level = 1 → s.effectiveTripLevel n = .deep) ∧
    (s.active.policy.tripLevel = 1 → (s.record n).level = 2 ∨ (s.record n).level = 3 → s.effectiveTripLevel n = .standby)) ∧
  (∀ (s : State) (L : Level), s.degradedAt L = true ↔
    ∃ n, (s.record n).memberOf L = true ∧ (s.nodeState n = .failed ∨ s.nodeState n = .held)) ∧
  ∀ (c : ConfigSet) (n m : NodeId),
    (m ∈ c.dependents n ↔ c.lists n m) ∧ (m ∈ c.transitiveDependents n ↔ Relation.TransGen c.lists n m) ∧
    (m ∈ c.exclusionSet ↔ ∃ g : NodeId, 24 ≤ g.val ∧ (c.node g).level = 3 ∧ (m = g ∨ Relation.TransGen c.lists g m)) ∧
    ∀ from' : List NodeId, m ∈ c.closeDependents 32 from' ↔ ∃ g ∈ from', m = g ∨ Relation.TransGen c.lists g m

/-- The level of each EN and RL pin by drive, active and the node's state, and the intervals around power and reset (R12, R38); the level of BSEL (R150, R166). That the reserved bits of a record's flags are not read is log 23. -/
def Obligations.PinsFollowStateAndRecord : Prop :=
  (∀ (s : State) (n : NodeId),
    (s.power = .running → s.outputPin n =
      (match (s.record n).openDrain, (s.record n).activeHigh, (s.nodeState n).energized != isGate n with
        | false, true, true => .high
        | false, true, false => .low
        | false, false, true => .low
        | false, false, false => .high
        | true, true, true => .highZ
        | true, true, false => .low
        | true, false, true => .low
        | true, false, false => .highZ)) ∧
    (s.power = .loading → s.outputPin n = .highZ) ∧
    (s.power = .unpowered → s.outputPin n = .unpowered) ∧
    (s.power = .resetInterval → s.outputPin n = if s.stepFour then s.nodePin n false else .highZ) ∧
    (s.nodePin n false = .highZ ∨ s.nodePin n true = .highZ ↔ (s.record n).openDrain = true)) ∧
    ∀ s : State,
      (s.power = .unpowered → s.bselPin = .unpowered) ∧
      (s.power ≠ .unpowered → s.stepFour = false → s.bselPin = .highZ) ∧
      (s.power ≠ .unpowered → s.stepFour = true → s.bselPin = if s.retained.bsel then .high else .low)

/-! ### Supplies, reset, load -/

/-- The start event, at power arrival and at the release of nRST (R168, R169). That the strap levels are operands of the two commands is the model's choice (log 19), and so is that every volatile field keeps its value until the load (log 18); that a command which cannot occur changes nothing is log 5. -/
def Obligations.StartEventLatchesStrapsAndLoads : Prop :=
  ∀ (s : State) (adr1 adr0 : Bool),
    (s.power = .unpowered → s.inputs.nrstHigh = true → exec (.standbyPowerArrival adr1 adr0) s = .next
      { s with power := .loading, stepFour := false, uptime := 0, pointer := 0
               address := 0x4C + (if adr1 then 2 else 0) + (if adr0 then 1 else 0) }) ∧
    (s.power = .unpowered → s.inputs.nrstHigh = false → exec (.standbyPowerArrival adr1 adr0) s = .next
      { s with power := .resetInterval, stepFour := false }) ∧
    (s.power ≠ .unpowered → exec (.standbyPowerArrival adr1 adr0) s = .next s) ∧
    (s.power = .resetInterval → exec (.nrstRelease adr1 adr0) s = .next
      { s with power := .loading, uptime := 0, pointer := 0, inputs := { s.inputs with nrstHigh := true }
               address := 0x4C + (if adr1 then 2 else 0) + (if adr0 then 1 else 0) }) ∧
    (s.power ≠ .resetInterval → exec (.nrstRelease adr1 adr0) s = .next
      { s with inputs := { s.inputs with nrstHigh := true } })

/-- Loss of standby power and nRST falling stop everything at once, a Host Port frame in progress being ignored until nCS rises; losing VBAT costs the retained record only while standby power is absent (R38, R161, R164, R168, R174). That volatile state is kept until the next load, and that VBAT is told with the loss, are the model's choices (log 18, log 17); so is that a lost record keeps the fields beside its mark and check (log 16); that the frame stays ignored over the stop is log 28; that a command which cannot occur changes nothing is log 5. -/
def Obligations.PowerLossAndResetStopEverything : Prop :=
  ∀ s : State,
    (∀ vbat, s.power ≠ .unpowered → ∃ t, exec (.standbyPowerLoss vbat) s = .next t ∧ s.stopped t ∧
      t.power = .unpowered ∧ t.stepFour = false ∧ t.inputs = { s.inputs with vbat := vbat } ∧
      t.retained = if vbat then s.retained else { s.retained with mark := false, checkGood := false }) ∧
    (s.power = .loading ∨ s.power = .running → ∃ t, exec .nrstFall s = .next t ∧ s.stopped t ∧
      t.power = .resetInterval ∧ t.stepFour = s.stepFour ∧ t.inputs = { s.inputs with nrstHigh := false } ∧
      t.retained = s.retained) ∧
    (∀ vbat, s.power = .unpowered → exec (.standbyPowerLoss vbat) s = .next s) ∧
    (s.power = .unpowered → exec .vbatLoss s = .next
      { s with inputs := { s.inputs with vbat := false }, retained := { s.retained with mark := false, checkGood := false } }) ∧
    (s.power ≠ .unpowered → exec .vbatLoss s = .next { s with inputs := { s.inputs with vbat := false } }) ∧
    (s.power = .unpowered ∨ s.power = .resetInterval →
      exec .nrstFall s = .next { s with inputs := { s.inputs with nrstHigh := false } })

/-- The load completion event: the image or the empty set in both sets, the retained record checked and kept or replaced by its defaults, the ports at their start values, the input filters started, and the request of the resume policy (R162, R166, R170, R171). How watching and the button filter start is said for every state (R91, R124, R125, R127). That the command changes nothing outside a load is log 5; rails whose good comes at once are taken lowest first, log 13; the matches of one load are taken together, and an interval that begins with watching carries no line change, log 10. That a monitor default above 1 reads as disabled is the model's choice (log 23), as is every reading of a byte outside its encoding or range. That a frame ignored since the stop stays ignored is log 28. -/
def Obligations.LoadCompletionStartsThePart : Prop :=
  (∀ (s : State) (starts : Fin 16 → Bool), ∃ e t : State, { e with wakes := s.wakes } = s ∧
    (∀ f, e.wakeLive f = if starts f = true then s.watchedAnew f else s.wakeLive f) ∧
    e.actedOn t (fun f => starts f = true ∧ (s.wakeEntry f).levelSense = true ∧ (s.wakeEntry f).debounce = 0 ∧
      s.lineLevel (s.wakeEntry f) = (s.wakeEntry f).matchesHigh ∧ (s.wakeLive f).pending = false ∧
      s.plat.phase ≠ .halted ∧ (s.wakeEntry f).armedAt s.plat.reference = true) ∧
    s.startWatching (allEntries.filter starts) = t) ∧
  (∀ s : State, s.lookAtPbtn = { s with button := { s.button with
    filter := (if s.inputs.pbtnHigh ≠ s.button.pressed then none
      else if s.button.filter = none then some ⟨!s.inputs.pbtnHigh, s.active.policy.buttonDebounce.toNat⟩
      else s.button.filter) } }) ∧
  ∀ s : State,
    (s.power = .loading →
      let image := match s.newestValid with
        | some i => (s.bank i).image
        | none => ConfigSet.empty
      let cause : StartCause := if s.stepFour then .externalReset else .standbyPower
      let kept : Retained := if s.retained.valid then { s.retained with startCause := cause }
        else { mark := true, checkGood := true, lastSettled := none, bsel := false, firstFault := none, startCause := cause
               lost := true }
      let started : State := { s with
        power := .running, stepFour := true, active := image, staged := image, loadedBank := s.newestValid
        imageBad := s.newestValid.isNone, retained := kept, storeJob := none
        nodes := Vector.replicate 32 NodeLive.start, budgetInUse := 0, ready := [], plat := Platform.start, queue := []
        hostLock := false, button := Button.start, idle := none, faults := FaultUnit.start
        wakes := Vector.replicate 16 WakeLive.start
        monitor := Monitor.start (if image.policy.monitorDefault = 1 then .idle else .disabled)
        mailbox := ⟨Mailbox.start, Mailbox.start⟩, completions := ⟨[], []⟩, causes := ⟨0, 0⟩, masks := ⟨0, 0⟩ }
      let up := ((started.lookAtAllPg.startWatching (allEntries.filter fun e => image.wake[e].enabled)).lookAtPbtn).finish
      let asks := fun T => (up.arrive (plainRequest .resume .normal T)).finish
      ∃ t, exec .loadCompletion s = .next t ∧
        (image.policy.resumePolicy = 0 → t = up) ∧
        (image.policy.resumePolicy = 1 → t = asks .standby) ∧
        (image.policy.resumePolicy = 2 → t = asks .run) ∧
        (image.policy.resumePolicy = 3 → up.retained.lastSettled = none → t = asks .standby) ∧
        (image.policy.resumePolicy = 3 → ∀ L, up.retained.lastSettled = some L → t = asks L) ∧
        t.power = .running ∧ t.stepFour = true ∧ t.active = image ∧
        t.staged = t.active ∧ t.loadedBank = s.newestValid ∧ t.imageBad = s.newestValid.isNone ∧
        t.bank0 = s.bank0 ∧ t.bank1 = s.bank1 ∧ t.storeJob = none ∧
        t.retained.mark = true ∧ t.retained.checkGood = true ∧ t.retained.startCause = cause ∧
        t.retained.lost = (if s.retained.valid then s.retained.lost else true) ∧
        (s.retained.valid = true → ∀ f, s.retained.firstFault = some f → t.retained.firstFault = some f) ∧
        (s.retained.valid = true → t.retained.bsel = s.retained.bsel) ∧
        t.uptime = s.uptime ∧ t.address = s.address ∧ t.pointer = s.pointer ∧ t.inputs = s.inputs ∧
        t.hostLock = false ∧ t.button.state = .locked ∧ t.monitor.log = [] ∧ t.monitor.postCount = 0 ∧
        t.monitor.recoveryCount = 0 ∧ t.monitor.holding = 0 ∧
        ∀ p, (t.mailbox.get p).status = .idle ∧ (t.mailbox.get p).args = Vector.replicate 16 0 ∧ t.masks.get p = 0) ∧
    (s.power ≠ .loading → exec .loadCompletion s = .next s)

/-- The uptime counter wraps from its highest value to 0 (R169). When the command acts is the model's choice (log 6). -/
def Obligations.UptimeWrapsToZero : Prop :=
  ∀ s : State,
    ((s.power = .loading ∨ s.power = .running) → s.uptime = 4294967295 → exec .uptimeWrap s = .next { s with uptime := 0 }) ∧
    (s.uptime ≠ 4294967295 ∨ s.power = .unpowered ∨ s.power = .resetInterval → exec .uptimeWrap s = .next s)

/-! ### Node events -/

/-- A change on a PG pin: nothing for a rail that is not sampled, else the filter stops, starts, runs on, or with length 0 good moves at once, with all that follows from it (R23, R24, R26, R29, R32, R37). Which rails are sampled, and what it does when the filters look at every pin: rail after rail the same, and with a good filter other than 0 an interval at each sampled rail whose pin differs from good, every other node as before (R23); that the rails are taken lowest first is log 13; that a trip starts before any node is tested to go down (R31) is log 35. That a rise or fall keeps the good_mode it began with is log 27. Where the active set holds a value outside its encoding or range, the reading is the model's choice (log 23). -/
def Obligations.PgChangeDrivesTheFilter : Prop :=
  (∀ (s : State) (rail : RailId),
    (s.sampled rail = true ↔ s.power = .running ∧ s.plat.phase ≠ .halted ∧ (s.record (railNode rail)).used = true ∧
      (s.record (railNode rail)).timed = false) ∧ s.pgLooked (s.lookAtPg rail) rail) ∧
  (∀ s : State, s.lookAtAllPg = allRails.foldl State.lookAtPg s ∧ (s.active.policy.goodFilter ≠ 0 →
    { s.lookAtAllPg with nodes := s.nodes } = s ∧ ∀ n, s.lookAtAllPg.node n = s.filterStarted n)) ∧
  ∀ (s : State) (rail : RailId) (high : Bool), s.power = .running →
    let n := railNode rail
    let s' := s.withPin (.pgChange rail high)
    (s'.sampled rail = false → exec (.pgChange rail high) s = .next s'.finish) ∧
    (s'.sampled rail = true → high = (s.node n).good →
      exec (.pgChange rail high) s = .next (s'.setNode n { s.node n with filter := none }).finish) ∧
    (s'.sampled rail = true → high ≠ (s.node n).good → (s.node n).filter ≠ none →
      exec (.pgChange rail high) s = .next s'.finish) ∧
    (s'.sampled rail = true → high ≠ (s.node n).good → (s.node n).filter = none → s.active.policy.goodFilter ≠ 0 →
      exec (.pgChange rail high) s =
        .next (s'.setNode n { s.node n with filter := some ⟨high, s.active.policy.goodFilter.toNat⟩ }).finish) ∧
    (s'.sampled rail = true → high ≠ (s.node n).good → (s.node n).filter = none → s.active.policy.goodFilter = 0 →
      ∃ e, exec (.pgChange rail high) s = .next e.finish.finish ∧
        if high = true then s'.tookGood e n else s'.lostGood e n)

/-- Good taken: it ends a SENSED rise, is a BACKFEED once per stay in a state without energy, and otherwise only moves good (R24, R26, R32, R37, R112). The command acts when its interval has nothing left (log 4); else nothing changes (log 5). That a rise or fall keeps the good_mode it began with is log 27. Where a record holds a value outside its encoding or range, the reading is the model's choice (log 23). -/
def Obligations.GoodTakenEndsTheRiseOrIsBackfeed : Prop :=
  ∀ (s : State) (rail : RailId),
    let n := railNode rail
    ((s.node n).filter ≠ some ⟨true, 0⟩ → exec (.goodTaken rail) s = .next s) ∧
    (s.power = .running → (s.node n).filter = some ⟨true, 0⟩ →
      ∃ e, exec (.goodTaken rail) s = .next e.finish ∧ s.tookGood e n)

/-- Good falls: GOOD_LOST in SETTLING and ON, the end of a SENSED drain, and otherwise only good moves (R24, R29, R32, R101). The command acts when its interval has nothing left (log 4); else nothing changes (log 5); that a trip starts before any node is tested to go down (R31) is log 35. That a rise or fall keeps the good_mode it began with is log 27. Where the active set holds a value outside its encoding or range, the reading is the model's choice (log 23). -/
def Obligations.GoodFallsEndsTheDrainOrIsGoodLost : Prop :=
  ∀ (s : State) (rail : RailId),
    let n := railNode rail
    ((s.node n).filter ≠ some ⟨false, 0⟩ → exec (.goodFalls rail) s = .next s) ∧
    (s.power = .running → (s.node n).filter = some ⟨false, 0⟩ →
      ∃ e, exec (.goodFalls rail) s = .next e.finish ∧ s.lostGood e n)

/-- The rise timer's expiry: a TIMED rise ends; a SENSED one is retried through DRAINING while its count is below retries, else its policy applies (R26, R27, R100, R101). The command acts when the timer has nothing left (log 4); else nothing changes (log 5); that a trip starts before any node is tested to go down (R31) is log 35. That a rise or fall keeps the good_mode it began with is log 27. Where the active set holds a value outside its encoding or range, the reading is the model's choice (log 23). -/
def Obligations.RiseTimerExpiryEndsRetriesOrFails : Prop :=
  ∀ (s : State) (n : NodeId),
    ((s.nodeState n ≠ .rising ∨ (s.node n).rise ≠ some 0) → exec (.riseTimerExpiry n) s = .next s) ∧
    (s.power = .running → s.nodeState n = .rising → (s.node n).rise = some 0 →
      ((s.node n).mode ≠ some .sensed → ∃ e, exec (.riseTimerExpiry n) s = .next e.finish ∧ s.riseEnded e n) ∧
      ((s.node n).mode = some .sensed → (s.node n).retry < (s.record n).retries.toNat →
        ∃ e, exec (.riseTimerExpiry n) s = .next e.finish ∧
          s.logged e (s.recordOf .riseTimeout (some n) none .retried) ∧
          { e with nodes := s.nodes, budgetInUse := s.budgetInUse, ready := s.ready, faults := s.faults
                   retained := s.retained } = s ∧
          (∀ m, m ≠ n → e.node m = s.node m) ∧
          e.node n = { s.droppedRecord n with retry := (s.node n).retry + 1 } ∧
          e.budgetInUse = s.budgetInUse - (s.node n).charge.getD 0 ∧
          e.ready = if isGate n then s.ready.filter (fun x => x.node != n) else s.ready) ∧
      ((s.node n).mode = some .sensed → (s.record n).retries.toNat ≤ (s.node n).retry →
        ∃ e, exec (.riseTimerExpiry n) s = .next e.finish ∧ s.faultTaken e .riseTimeout n))

/-- The settle-hold timer's expiry turns the node ON (R28). The command acts when the timer has nothing left (log 4); else nothing changes (log 5). -/
def Obligations.SettleHoldExpiryTurnsTheNodeOn : Prop :=
  ∀ (s : State) (n : NodeId),
    ((s.nodeState n ≠ .settling ∨ (s.node n).hold ≠ some 0) → exec (.settleHoldExpiry n) s = .next s) ∧
    (s.power = .running → s.nodeState n = .settling → (s.node n).hold = some 0 →
      ∃ e, exec (.settleHoldExpiry n) s = .next e.finish ∧ s.turnedOn e n)

/-- The fall timer's expiry ends the drain, or raises FALL_TIMEOUT at a SENSED rail with good present (R32, R33). The command acts when the timer has nothing left (log 4); else nothing changes (log 5); that a trip starts before any node is tested to go down (R31) is log 35. That a rise or fall keeps the good_mode it began with is log 27. Where the active set holds a value outside its encoding or range, the reading is the model's choice (log 23). -/
def Obligations.FallTimerExpiryEndsTheDrainOrFails : Prop :=
  ∀ (s : State) (rail : RailId),
    let n := railNode rail
    ((s.nodeState n ≠ .draining ∨ (s.node n).fall ≠ some 0) → exec (.fallTimerExpiry rail) s = .next s) ∧
    (s.power = .running → s.nodeState n = .draining → (s.node n).fall = some 0 →
      ((s.node n).mode = some .sensed ∧ (s.node n).good = true →
        ∃ e, exec (.fallTimerExpiry rail) s = .next e.finish ∧ s.faultTaken e .fallTimeout n) ∧
      (¬((s.node n).mode = some .sensed ∧ (s.node n).good = true) →
        ∃ e, exec (.fallTimerExpiry rail) s = .next e.finish ∧ s.turnedOff e n))

/-- The recycle hold's expiry begins the UP leg (R65, R66). The command acts when the timer has nothing left (log 4); else nothing changes (log 5). -/
def Obligations.RecycleHoldExpiryBeginsTheUpLeg : Prop :=
  ∀ s : State,
    ((s.plat.recycle ≠ some .hold ∨ s.plat.holdTimer ≠ some 0) → exec .recycleHoldExpiry s = .next s) ∧
    (s.power = .running → s.plat.recycle = some .hold → s.plat.holdTimer = some 0 → exec .recycleHoldExpiry s =
      .next (State.finish { s with plat := { s.plat with recycle := some .up, holdTimer := none } }))

/-! ### Button, idle timer, wake lines -/

/-- PBTN and its filter (R91). A debounce outside 4 to 64 counts as the number it is, by the model's choice (log 23). -/
def Obligations.PbtnChangeDrivesTheDebounce : Prop :=
  ∀ (s : State) (high : Bool), s.power = .running →
    let s' := s.withPin (.pbtnChange high)
    (high ≠ s.button.pressed → exec (.pbtnChange high) s =
      .next (State.finish { s' with button := { s.button with filter := none } })) ∧
    (high = s.button.pressed → s.button.filter ≠ none → exec (.pbtnChange high) s = .next s'.finish) ∧
    (high = s.button.pressed → s.button.filter = none → exec (.pbtnChange high) s =
      .next (State.finish { s' with button := { s.button with
        filter := some ⟨!high, s.active.policy.buttonDebounce.toNat⟩ } }))

/-- Press, release and long press by the button's state (R92, R93, R94). Each command acts when its interval or timer has nothing left (log 4); else nothing changes (log 5). That a button floor above 1 reads as STANDBY, and a long-press time outside 1 to 15 as the number it is, is the model's choice (log 23). -/
def Obligations.ButtonEventsFollowTheButtonState : Prop :=
  ∀ s : State,
    (s.button.filter ≠ some ⟨true, 0⟩ → exec .press s = .next s) ∧
    (s.button.filter ≠ some ⟨false, 0⟩ → exec .release s = .next s) ∧
    ((s.button.state ≠ .pressed ∨ s.button.longTimer ≠ some 0) → exec .longPress s = .next s) ∧
    (s.power = .running →
      (s.button.filter = some ⟨true, 0⟩ → exec .press s = .next (State.finish { s with button :=
        if s.button.state = .released then
          { state := .pressed, pressed := true, filter := none
            longTimer := some (1000 * s.active.policy.longPress.toNat) }
        else { s.button with pressed := true, filter := none } })) ∧
      (s.button.filter = some ⟨false, 0⟩ →
        (s.button.state = .released ∨ (s.button.state = .locked ∧ s.plat.phase = .halted) → exec .release s =
          .next (State.finish { s with button := { s.button with pressed := false, filter := none } })) ∧
        (s.button.state = .long ∨ (s.button.state = .locked ∧ s.plat.phase ≠ .halted) → exec .release s =
          .next (State.finish { s with button :=
            { s.button with state := .released, pressed := false, filter := none } })) ∧
        (s.button.state = .pressed → s.plat.reference = .run → exec .release s =
          .next (State.finish { s with
            button := { state := .released, pressed := false, filter := none, longTimer := none }
            causes := ⟨s.causes.host ||| 0x0020, s.causes.mgmt ||| 0x0020⟩ })) ∧
        (s.button.state = .pressed → s.plat.reference ≠ .run → exec .release s =
          .next (State.finish (State.arrive
            { s with button := { state := .released, pressed := false, filter := none, longTimer := none } }
            (plainRequest .button .normal .run))))) ∧
      (s.button.state = .pressed → s.button.longTimer = some 0 → exec .longPress s =
        .next (State.finish (State.arrive { s with button := { s.button with state := .long, longTimer := none } }
          (plainRequest .button .forced (if s.active.policy.buttonFloor = 0 then .deep else .standby))))))

/-- The idle timer's expiry asks for DEEP (R95). The command acts when the timer has nothing left (log 4); else nothing changes (log 5). -/
def Obligations.IdleTimerExpiryAsksForDeep : Prop :=
  ∀ s : State,
    (s.idle ≠ some 0 → exec .idleTimerExpiry s = .next s) ∧
    (s.power = .running → s.idle = some 0 → exec .idleTimerExpiry s =
      .next (State.finish (State.arrive { s with idle := none } (plainRequest .idle .normal .deep))))

/-- A change on a wake line: every watched entry on it stops or starts its interval, or with debounce 0 takes its edge at once, with the causes and the one request of the matches (R124, R125, R127, R128); entries elsewhere are untouched. That an interval carries the number of the line change at which it began is the model's form of R128 (log 10). Where a wake entry holds a value outside its encoding or range, the reading is the model's choice (log 23). -/
def Obligations.WakeLineChangeDrivesEachEntry : Prop :=
  ∀ (s : State) (line : Fin 16) (high : Bool), s.power = .running →
    let moves := fun f => (s.wakeEntry f).onLine line = true ∧ (s.wakeLive f).level = some !high ∧ (s.wakeLive f).filter = none
    ∃ e t : State, { e with wakes := s.wakes } = { s.withPin (.wakeLineChange line high) with lineChanges := s.lineChanges + 1 } ∧
      (∀ f, ((s.wakeEntry f).onLine line = false ∨ (s.wakeLive f).level = none → e.wakeLive f = s.wakeLive f) ∧
        ((s.wakeEntry f).onLine line = true → (s.wakeLive f).level = some high →
          e.wakeLive f = { s.wakeLive f with filter := none }) ∧
        ((s.wakeEntry f).onLine line = true → (s.wakeLive f).level = some !high → (s.wakeLive f).filter ≠ none →
          e.wakeLive f = s.wakeLive f) ∧
        (moves f → (s.wakeEntry f).debounce ≠ 0 → e.wakeLive f = { s.wakeLive f with
          filter := some ⟨high, (s.wakeEntry f).debounce, (s.wakeEntry f).debounce, some s.lineChanges⟩ }) ∧
        (moves f → (s.wakeEntry f).debounce = 0 → e.wakeLive f = s.edgeRecord f high)) ∧
      e.actedOn t (fun f => moves f ∧ (s.wakeEntry f).debounce = 0 ∧ s.edgeActs f high) ∧
      exec (.wakeLineChange line high) s = .next t.finish

/-- The end of a wake entry's interval, and of those on its line with equal length that began at the same line change: debounced levels, matches, WAKE causes and the one request for the highest target (R124, R125, R127, R128, R130). The command acts when the interval has nothing left (log 4), else nothing changes (log 5); an interval that began with watching ends alone (log 10). Where a wake entry holds a value outside its encoding or range, the reading is the model's choice (log 23). -/
def Obligations.WakeDebounceExpiryMatches : Prop :=
  ∀ (s : State) (entry : Fin 16),
    (((s.wakeLive entry).level = none ∨ ∀ i, (s.wakeLive entry).filter = some i → i.left ≠ 0) →
      exec (.wakeDebounceExpiry entry) s = .next s) ∧
    ∀ i : WakeInterval, s.power = .running → (s.wakeLive entry).level ≠ none → (s.wakeLive entry).filter = some i →
      i.left = 0 →
      let ends := fun f => f = entry ∨ (i.change ≠ none ∧ (s.wakeEntry f).line = (s.wakeEntry entry).line ∧
        (s.wakeLive f).level ≠ none ∧ (s.wakeLive f).filter = some i)
      ∃ e t : State, { e with wakes := s.wakes } = s ∧
        (∀ f, ¬ends f → e.wakeLive f = s.wakeLive f) ∧ (∀ f, ends f → e.wakeLive f = s.edgeRecord f i.toward) ∧
        e.actedOn t (fun f => ends f ∧ s.edgeActs f i.toward) ∧ exec (.wakeDebounceExpiry entry) s = .next t.finish

/-! ### The progress supervisor -/

/-- A missed stage: the decision, its record, the monitor's new state and the WATCH request (R113, R144, R145). The command acts when the deadline has nothing left, so a deadline that a post has restarted or stopped is not missed (R143; log 4); else nothing changes (log 5). That an alternate allowed byte above 1 reads as no, so that ALTERNATE becomes COLD, and a recovery limit above 7 as the number it is, is the model's choice (log 23). -/
def Obligations.DeadlineExpiryDecidesTheStage : Prop :=
  (∀ s : State, (∀ k, s.monitor.state ≠ .armed k) ∨ s.monitor.deadline ≠ some 0 → exec .deadlineExpiry s = .next s) ∧
  ∀ (s : State) (k : Nat) (g : Stage), s.power = .running → s.monitor.state = .armed k → s.monitor.deadline = some 0 →
    s.active.plan.active[k]? = some g → g.action.toNat ≤ 3 →
    let limit := s.active.policy.recoveryLimit.toNat
    let decision : FaultAction :=
      if g.action = 0 then .noted
      else if s.monitor.recoveryCount < limit then
        (if g.action = 1 then .warm
          else if g.action = 3 ∧ s.active.policy.alternateAllowed = 1 then .alternate else .cold)
      else .holdOff
    ∃ e, s.logged e (s.recordOf .stageExpiry none (some k) decision) ∧
      { e with faults := s.faults, retained := s.retained } = { s with monitor := { s.monitor with
        deadline := none
        recoveryCount := if decision = .noted ∨ decision = .holdOff then s.monitor.recoveryCount
          else s.monitor.recoveryCount + 1
        state := if decision = .noted then .stalled k else if decision = .holdOff then .disabled else .recovering } } ∧
      (decision = .noted → exec .deadlineExpiry s = .next e.finish) ∧
      (decision = .warm → exec .deadlineExpiry s =
        .next (e.arrive ⟨.watch, .forced, .run, none, true, none, false⟩).finish) ∧
      (decision = .cold → exec .deadlineExpiry s =
        .next (e.arrive ⟨.watch, .forced, .run, some .standby, false, none, false⟩).finish) ∧
      (decision = .alternate → exec .deadlineExpiry s =
        .next (e.arrive ⟨.watch, .forced, .run, some .standby, false, none, true⟩).finish) ∧
      (decision = .holdOff → exec .deadlineExpiry s =
        .next (e.arrive ⟨.watch, .forced, .standby, none, false, none, false⟩).finish)

/-- Posts: the low byte is held; the high byte posts the code, which is logged, counted and matched against the due stage (R135, R136, R142). The byte reaches the part in a live write frame that has come to its location; that the frame's header comes with its start is log 8. Where the plan holds a value outside its encoding or range, the reading is the model's choice (log 23). -/
def Obligations.PostsAreLoggedAndMatched : Prop :=
  ∀ (s : State) (v : Byte),
    (s.takesByte .host 0x0100 = true → exec (.postLowByte v) s =
      .next (State.finish { s.byteTaken .host 0x0100 with monitor := { s.monitor with holding := v } })) ∧
    (s.takesByte .host 0x0101 = true → ∃ m : Monitor,
      m.postCount = s.monitor.postCount + 1 ∧ m.holding = s.monitor.holding ∧
      m.log = (if s.monitor.log.length < 32 then s.monitor.log ++ [⟨v ++ s.monitor.holding, s.uptime⟩]
        else s.monitor.log.tail ++ [⟨v ++ s.monitor.holding, s.uptime⟩]) ∧
      ((∀ k, s.monitor.state ≠ .armed k ∧ s.monitor.state ≠ .stalled k) →
        exec (.post v) s = .next (State.finish { s.byteTaken .host 0x0101 with monitor :=
          { s.monitor with log := m.log, postCount := m.postCount } })) ∧
      (∀ k, s.monitor.state = .armed k ∨ s.monitor.state = .stalled k →
        ((∀ j g, k ≤ j → s.active.plan.active[j]? = some g → g.holds (v ++ s.monitor.holding) = false) →
          exec (.post v) s = .next (State.finish { s.byteTaken .host 0x0101 with monitor :=
            { s.monitor with log := m.log, postCount := m.postCount } })) ∧
        (∀ j g, k ≤ j → s.active.plan.active[j]? = some g → g.holds (v ++ s.monitor.holding) = true →
          (∀ i h, k ≤ i → i < j → s.active.plan.active[i]? = some h → h.holds (v ++ s.monitor.holding) = false) →
          m.skipCount = s.monitor.skipCount + (j - k) ∧
          (∀ g', s.active.plan.active[j + 1]? = some g' → m.state = .armed (j + 1) ∧
            m.deadline = some (10 * g'.deadline.toNat) ∧ m.recoveryCount = s.monitor.recoveryCount) ∧
          (s.active.plan.active[j + 1]? = none → m.state = .complete ∧ m.deadline = none ∧ m.recoveryCount = 0) ∧
          exec (.post v) s = .next (State.finish { s.byteTaken .host 0x0101 with
            monitor := m, causes := ⟨s.causes.host ||| 0x0040, s.causes.mgmt ||| 0x0040⟩ }))))

/-! ### Request commands -/

/-- SUBMIT: its argument bytes as a request (0 kind; 1 target; 2 via, 0xFF absent; 3 bit 0 recycle; 4 tag), none where a byte names no value; the port's quota sum; its checks in their order, and the accepted request (R76, R77, R78, R179, R182). That bits 4 to 7 of the host target set are not read is log 23. -/
def Obligations.SubmitChecksThenAccepts : Prop :=
  (∀ (s : State) (p : Port),
    (∀ i, s.arg p i = (s.mailbox.get p).args[i]) ∧
    (s.submitted p = none ↔
      1 < (s.arg p 0).toNat ∨ 3 < (s.arg p 1).toNat ∨ (3 < (s.arg p 2).toNat ∧ s.arg p 2 ≠ 0xFF)) ∧
    (∀ r, s.submitted p = some r →
      r.source = (match p with
        | .host => .hport
        | .mgmt => .mport) ∧
      r.kind = (if s.arg p 0 = 0 then .normal else .forced) ∧ s.arg p 1 = BitVec.ofNat 8 r.target.rank ∧
      s.arg p 2 = (match r.via with
        | some v => BitVec.ofNat 8 v.rank
        | none => 0xFF) ∧
      r.recycle = (s.arg p 3).getLsbD 0 ∧ r.tag = some (s.arg p 4) ∧ r.alternate = false) ∧
    s.quota p = (s.completions.get p).length + (s.queue.filter fun r => r.source == Port.source p).length +
      (s.plat.inFlight.toList.filter fun r => r.source == Port.source p).length) ∧
  ∀ (s : State) (p : Port), s.takesCommand p →
    (s.submitted p = none → exec (.submit p) s = .next (s.answered p 0x01 .invalid noDetail).finish) ∧
    ∀ r, s.submitted p = some r →
      let invalid := (∃ v, r.via = some v ∧ r.target.rank ≤ v.rank) ∨ (r.recycle = true ∧ r.target ≠ .run) ∨
        (p = .host ∧ r.kind = .forced)
      let denied := p = .host ∧ (s.hostLock = true ∨ s.active.policy.hostTargets.getLsbD r.target.rank = false)
      (invalid → exec (.submit p) s = .next (s.answered p 0x01 .invalid noDetail).finish) ∧
      (¬invalid → s.plat.phase = .halted → exec (.submit p) s = .next (s.answered p 0x01 .halted noDetail).finish) ∧
      (¬invalid → s.plat.phase ≠ .halted → denied →
        exec (.submit p) s = .next (s.answered p 0x01 .denied noDetail).finish) ∧
      (¬invalid → s.plat.phase ≠ .halted → ¬denied → 4 ≤ s.quota p →
        exec (.submit p) s = .next (s.answered p 0x01 .busy noDetail).finish) ∧
      (¬invalid → s.plat.phase ≠ .halted → ¬denied → s.quota p < 4 →
        exec (.submit p) s = .next (((s.commanded p 0x01).arrive r).finished p .accepted noDetail).finish)

/-- What an accepted request does at the arbiter: it joins the queue, merges with an older WAKE request, replaces its source's request, waits out a trip, or overtakes the request in flight; displaced requests end SUPERSEDED, the overtaken one first, and the monitor hears of it and of the start (R52, R55, R67, R80, R81, R82, R87, R95, R147, R148). Where the active set holds a value outside its encoding or range, the reading is the model's choice (log 23). -/
def Obligations.ArrivalsJoinReplaceMergeOrOvertake : Prop :=
  ∀ (s : State) (r : Request),
    let idle := s.idle.map fun _ => s.active.policy.autoDeepMs
    let older := s.queue.find? fun q => q.source == r.source
    (s.plat.phase = .halted → s.arrive r = s) ∧
    (s.plat.phase ≠ .halted → r.kind = .normal → older = none →
      s.arrive r = { s with queue := s.queue ++ [r], idle := idle }) ∧
    (s.plat.phase ≠ .halted → r.kind = .normal → r.source = .wake →
      ∀ q, older = some q → r.target.rank ≤ q.target.rank → s.arrive r = { s with idle := idle }) ∧
    (s.plat.phase ≠ .halted → r.kind = .normal →
      ∀ q, older = some q → (r.source = .wake → q.target.rank < r.target.rank) →
        s.arrive r = { s with
          queue := s.queue.map fun q => if q.source = r.source then r else q
          completions := s.ended [q] .superseded
          monitor := s.monitor.afterLoss [q]
          idle := idle }) ∧
    (s.plat.phase ≠ .halted → r.kind = .forced → s.plat.trip = true →
      s.arrive r = { s with
        queue := s.queue.filter (fun q => q.source != r.source) ++ [r]
        completions := s.ended older.toList .superseded
        monitor := s.monitor.afterLoss older.toList
        idle := idle }) ∧
    (s.plat.phase ≠ .halted → r.kind = .forced → s.plat.trip = false → s.arrive r = s.overtakenBy r)

/-- CANCEL: the port's queued request with the tag is removed and completes CANCELLED; else IN_FLIGHT or STALE, with no other effect (R85). -/
def Obligations.CancelRemovesOnlyAQueuedRequest : Prop :=
  ∀ (s : State) (p : Port), s.takesCommand p →
    let tag := s.arg p 0
    let mine : Request → Bool := fun r => r.source == Port.source p && r.tag == some tag
    let record : Completion := ⟨tag, .cancelled, s.plat.settled, s.plat.degraded⟩
    let queue := s.queue.filter fun r => !mine r
    let removed := State.finished { s.commanded p 0x02 with
      queue := queue, completions := s.completions.set p (s.completions.get p ++ [record]) } p .ok noDetail
    let runs := s.answered p 0x02 .inFlight noDetail
    let stale := s.answered p 0x02 .stale noDetail
    ((∃ r ∈ s.queue, mine r = true) →
      exec (.cancel p) s = .next removed.finish ∧ (s.quiet → removed.finish = removed)) ∧
    ((∀ r ∈ s.queue, mine r = false) → (∃ r, s.plat.inFlight = some r ∧ mine r = true) →
      exec (.cancel p) s = .next runs.finish ∧ (s.quiet → runs.finish = runs)) ∧
    ((∀ r ∈ s.queue, mine r = false) → (∀ r, s.plat.inFlight = some r → mine r = false) →
      exec (.cancel p) s = .next stale.finish ∧ (s.quiet → stale.finish = stale))

/-- ACK_COMPLETION: the head goes when it carries the tag; else STALE, the queue unchanged; the other port's queue is never touched (R89). -/
def Obligations.AckCompletionRemovesTheMatchingHead : Prop :=
  ∀ (s : State) (p : Port), s.takesCommand p →
    let stale := s.answered p 0x03 .stale noDetail
    (∀ c rest, s.completions.get p = c :: rest → c.tag = s.arg p 0 →
      let removed := State.finished { s.commanded p 0x03 with completions := s.completions.set p rest } p .ok noDetail
      exec (.ackCompletion p) s = .next removed.finish ∧ (s.quiet → removed.finish = removed)) ∧
    ((∀ c rest, s.completions.get p = c :: rest → c.tag ≠ s.arg p 0) →
      exec (.ackCompletion p) s = .next stale.finish ∧ (s.quiet → stale.finish = stale))

/-- ACK_FAULT: the head goes when it carries the number, and overflow clears with the last record; else STALE, the log unchanged (R118). -/
def Obligations.AckFaultRemovesTheMatchingHead : Prop :=
  ∀ (s : State) (p : Port), s.takesCommand p →
    let stale := s.answered p 0x04 .stale noDetail
    (∀ f rest, s.faults.log = f :: rest → f.seq = s.arg p 1 ++ s.arg p 0 →
      let removed := State.finished { s.commanded p 0x04 with faults := { s.faults with
        log := rest, overflow := if rest = [] then false else s.faults.overflow } } p .ok noDetail
      exec (.ackFault p) s = .next removed.finish ∧ (s.quiet → removed.finish = removed)) ∧
    ((∀ f rest, s.faults.log = f :: rest → f.seq ≠ s.arg p 1 ++ s.arg p 0) →
      exec (.ackFault p) s = .next stale.finish ∧ (s.quiet → stale.finish = stale))

/-- CLEAR_WAKE: INVALID beyond 15; else pending clears, and an enabled level-sense entry still active matches again at once, with its request when armed (R131). Where a wake entry holds a value outside its encoding or range, the reading is the model's choice (log 23). -/
def Obligations.ClearWakeClearsAndMayMatchAgain : Prop :=
  ∀ (s : State) (p : Port), s.takesCommand p →
    (16 ≤ (s.arg p 0).toNat → exec (.clearWake p) s = .next (s.answered p 0x05 .invalid noDetail).finish) ∧
    ∀ e : Fin 16, (s.arg p 0).toNat = e.val →
      let entry := s.wakeEntry e
      let again := entry.enabled = true ∧ entry.levelSense = true ∧ (s.wakeLive e).level = some entry.matchesHigh
      let armed := s.plat.phase ≠ .halted ∧ entry.armedAt s.plat.reference = true
      let cleared := (s.commanded p 0x05).setWake e { s.wakeLive e with pending := false }
      let matched := (s.commanded p 0x05).setWake e { s.wakeLive e with pending := true, lastMatch := some s.uptime }
      let told : State := { matched with causes :=
        ⟨if entry.notifiesHost then s.causes.host ||| 0x0010 else s.causes.host,
          if entry.notifiesMgmt then s.causes.mgmt ||| 0x0010 else s.causes.mgmt⟩ }
      (¬again → exec (.clearWake p) s = .next (cleared.finished p .ok noDetail).finish) ∧
      (again → ¬armed → exec (.clearWake p) s = .next (matched.finished p .ok noDetail).finish) ∧
      (again → armed → entry.targetOf = none → exec (.clearWake p) s = .next (told.finished p .ok noDetail).finish) ∧
      ∀ T, again → armed → entry.targetOf = some T →
        exec (.clearWake p) s = .next ((told.arrive (plainRequest .wake .normal T)).finished p .ok noDetail).finish

/-! ### Configuration commands -/

/-- COMMIT: BUSY, VALIDATION and LIVE_CONFLICT change nothing else. An accepted one copies the staged set and keeps the staged set, banks and IMAGE_BAD; carries nodes, budget, monitor and idle timer across and lets the part react; then keeps, clears or starts to watch each wake entry, takes the matches of those that start on an active line, and looks at the PG pins (R39, R95, R124, R127, R132, R149, R154, R156, R157). The order between blocks is log 12, of sampling and take-down log 33, of PG looks log 13; that the Host Port's condition is tested after the copy's reaction is log 34; that an interval which begins with watching carries no line change, and that the matches of one COMMIT are taken together, is log 10. That a rise or fall keeps the good_mode it began with is log 27. Where the set before the copy holds a value outside its encoding or range, the reading is the model's choice (log 23). -/
def Obligations.CommitCopiesOnlyAValidUnconflictedSet : Prop :=
  ∀ s : State, s.takesCommand .mgmt →
    (s.plat.phase ≠ .settled → exec (.commit .mgmt) s = .next (s.answered .mgmt 0x10 .busy noDetail).finish) ∧
    (s.plat.phase = .settled → ∀ f, s.staged.failure = some f → exec (.commit .mgmt) s =
      .next (s.answered .mgmt 0x10 .validation ⟨f.part.code, BitVec.ofNat 8 f.index, f.reason.code⟩).finish) ∧
    (s.plat.phase = .settled → s.staged.failure = none → ∀ n,
      (s.active.node n).memberOf s.plat.settled ≠ (s.staged.node n).memberOf s.plat.settled →
      (∀ m, m < n → (s.active.node m).memberOf s.plat.settled = (s.staged.node m).memberOf s.plat.settled) →
      exec (.commit .mgmt) s = .next (s.answered .mgmt 0x10 .liveConflict ⟨0, BitVec.ofNat 8 n.val, 9⟩).finish) ∧
    (s.plat.phase = .settled → s.staged.failure = none →
      (∀ n, (s.active.node n).memberOf s.plat.settled = (s.staged.node n).memberOf s.plat.settled) →
      ∃ t, exec (.commit .mgmt) s = .next t ∧ t.active = s.staged ∧ t.staged = s.staged ∧ t.bank0 = s.bank0 ∧
        t.bank1 = s.bank1 ∧ t.imageBad = s.imageBad ∧ t.storeJob = s.storeJob ∧ t.inputs = s.inputs ∧
        t.hostLock = s.hostLock ∧ t.uptime = s.uptime ∧ t.masks = s.masks ∧ t.monitor.log = s.monitor.log ∧
        t.monitor.postCount = s.monitor.postCount ∧ t.monitor.recoveryCount = s.monitor.recoveryCount ∧
        t.mailbox.mgmt = { s.mailbox.mgmt with command := 0x10, status := .done, result := .ok, detail := ⟨0, 0, 0⟩ } ∧
        t.mailbox.host = s.mailbox.host ∧ (∀ e : Fin 16, t.wakeLive e = s.rewatched e) ∧
        ∃ a b c : State, (s.commanded .mgmt 0x10).carried a ∧ { b with wakes := s.wakes } = a.finish ∧
          (∀ e : Fin 16, b.wakeLive e = s.rewatched e) ∧
          b.actedOn c (fun e => s.matchesAtOnce e = true ∧ (s.rewires e = true ∨ (s.wakeLive e).pending = false) ∧
            b.plat.phase ≠ .halted ∧ (s.staged.wake[e]).armedAt b.plat.reference = true) ∧
          t = ((c.finish.lookAtAllPg).finished .mgmt .ok noDetail).finish)

/-- STORE: the bank that is not the newest valid one (bank 0 with none), the next generation, the active set; the mailbox is BUSY (R160). A bank is valid when its mark is set and its CRC-16 matches its generation and image; the newest valid bank is the only valid one, or the one whose generation is newer, (a - b) mod 65536 lying in 1 to 32767, or bank 0 where neither is newer (R159). That the mailbox keeps its result and detail while BUSY is the model's choice (log 21), and so are the order of the stored bytes and of the CRC's bits (log 14). -/
def Obligations.StoreInvalidatesTheOtherBank : Prop :=
  (∀ b : Bank, Bank.valid b = true ↔ b.mark = true ∧ b.crc = imageCrc b.generation b.image) ∧
  (∀ (g : Word) (c : ConfigSet), imageCrc g c =
    ((g.truncate 8 : Byte) :: (g >>> 8).truncate 8 :: c.stored).foldl
      (fun crc b => crcBit^[8] (crc ^^^ (b ++ 0#8))) 0xFFFF) ∧
  (∀ s : State,
    let newer := fun (a b : Bank) => 1 ≤ (a.generation - b.generation).toNat ∧ (a.generation - b.generation).toNat ≤ 32767
    (Bank.valid s.bank0 = false → Bank.valid s.bank1 = false → s.newestValid = none) ∧
    (Bank.valid s.bank0 = true → Bank.valid s.bank1 = false → s.newestValid = some .bank0) ∧
    (Bank.valid s.bank0 = false → Bank.valid s.bank1 = true → s.newestValid = some .bank1) ∧
    (Bank.valid s.bank0 = true → Bank.valid s.bank1 = true →
      (newer s.bank0 s.bank1 → s.newestValid = some .bank0) ∧ (newer s.bank1 s.bank0 → s.newestValid = some .bank1) ∧
      (¬newer s.bank0 s.bank1 → ¬newer s.bank1 s.bank0 → s.newestValid = some .bank0))) ∧
  ∀ s : State, s.takesCommand .mgmt →
    ∃ t i, exec (.store .mgmt) s = .next t ∧ (s.newestValid = some .bank0 ↔ i = BankId.bank1) ∧
      t.storeJob = some ⟨i, (match s.newestValid with
        | some j => (s.bank j).generation + 1
        | none => 0), s.active⟩ ∧
      (t.bank i).mark = false ∧ (∀ j, j ≠ i → t.bank j = s.bank j) ∧ t.active = s.active ∧ t.staged = s.staged ∧
      t.imageBad = s.imageBad ∧ t.loadedBank = s.loadedBank ∧
      t.mailbox.mgmt = { s.mailbox.mgmt with command := 0x11, status := .busy } ∧ t.mailbox.host = s.mailbox.host

/-- The completion of a STORE: on a match the target bank becomes valid with its generation and image and IMAGE_BAD clears; on a mismatch it stays invalid (R160). Whether the recomputed CRC matches is an operand of the command (log 15); with no STORE running nothing changes (log 5). That it may come at any time while a STORE runs is log 4. -/
def Obligations.StoreCompletionValidatesOrFails : Prop :=
  ∀ (s : State) (crcMatches : Bool),
    (s.storeJob = none → exec (.storeCompletion crcMatches) s = .next s) ∧
    ∀ j, s.power = .running → s.storeJob = some j →
      ∃ t, exec (.storeCompletion crcMatches) s = .next t ∧ t.storeJob = none ∧
        (∀ i, i ≠ j.target → t.bank i = s.bank i) ∧ t.active = s.active ∧ t.staged = s.staged ∧
        t.mailbox.mgmt.status = .done ∧ t.mailbox.mgmt.detail = ⟨0, 0, 0⟩ ∧ t.causes.mgmt &&& 0x0080 = 0x0080 ∧
        (crcMatches = true → Bank.valid (t.bank j.target) = true ∧ (t.bank j.target).generation = j.generation ∧
          (t.bank j.target).image = j.image ∧ t.imageBad = false ∧ t.mailbox.mgmt.result = .ok) ∧
        (crcMatches = false → Bank.valid (t.bank j.target) = false ∧ t.imageBad = s.imageBad ∧
          t.mailbox.mgmt.result = .storeFailed)

/-! ### Fault, monitor and record commands -/

/-- CLEAR_FAULTS: BUSY outside SETTLED; in SETTLED every FAILED node returns to OFF with its noted item clear, and nothing else of any node changes before the reaction (R114). -/
def Obligations.ClearFaultsReturnsFailedNodes : Prop :=
  ∀ s : State, s.takesCommand .mgmt →
    (s.plat.phase ≠ .settled → exec (.clearFaults .mgmt) s = .next (s.answered .mgmt 0x12 .busy noDetail).finish) ∧
    (s.plat.phase = .settled → ∃ nodes : Vector NodeLive 32,
      exec (.clearFaults .mgmt) s =
        .next (State.finish (({ s.commanded .mgmt 0x12 with nodes := nodes }).finished .mgmt .ok noDetail)) ∧
      ∀ n : NodeId, nodes[n] = if s.nodeState n = .failed then { s.node n with state := .off, noted := false } else s.node n)

/-- CLEAR_HALT: STALE outside HALTED; in HALTED the platform is SETTLED at DEEP, failures are cleared, the retained level is DEEP, a released button leaves LOCKED, and every sampled rail's filter looks at its pin (R70, R111). That good events which come at once, with a good filter of 0, are taken lowest rail first is the model's choice (log 13). -/
def Obligations.ClearHaltSettlesAtDeep : Prop :=
  ∀ s : State, s.takesCommand .mgmt →
    (s.plat.phase ≠ .halted → exec (.clearHalt .mgmt) s = .next (s.answered .mgmt 0x13 .stale noDetail).finish) ∧
    (s.plat.phase = .halted → ∃ nodes : Vector NodeLive 32,
      exec (.clearHalt .mgmt) s = .next (State.finish ((({ s.commanded .mgmt 0x13 with
        nodes := nodes
        plat := { s.plat with phase := .settled, settled := .deep, degraded := false, tripped := false }
        retained := { s.retained with lastSettled := some .deep, checkGood := true }
        button := if s.button.state = .locked ∧ s.button.pressed = false then { s.button with state := .released }
          else s.button } : State).lookAtAllPg).finished .mgmt .ok noDetail)) ∧
      ∀ n : NodeId, nodes[n] = if s.nodeState n = .failed then { s.node n with state := .off, noted := false } else s.node n)

/-- MONITOR_ON and MONITOR_OFF, in every phase and monitor state (R140). -/
def Obligations.MonitorCommandsSetTheMonitor : Prop :=
  ∀ s : State, s.takesCommand .mgmt →
    exec (.monitorOn .mgmt) s = .next (State.finish (({ s.commanded .mgmt 0x14 with monitor := { s.monitor with
      state := .idle, deadline := none, recoveryCount := 0, skipCount := 0 } }).finished .mgmt .ok noDetail)) ∧
    exec (.monitorOff .mgmt) s = .next (State.finish (({ s.commanded .mgmt 0x15 with monitor := { s.monitor with
      state := .disabled, deadline := none } }).finished .mgmt .ok noDetail))

/-- SET_BSEL: INVALID, then BUSY, then the retained boot-select value (R150). -/
def Obligations.SetBselOnlyWhileSettledBelowRun : Prop :=
  ∀ s : State, s.takesCommand .mgmt →
    let v := s.arg .mgmt 0
    (v ≠ 0 ∧ v ≠ 1 → exec (.setBsel .mgmt) s = .next (s.answered .mgmt 0x16 .invalid noDetail).finish) ∧
    (v = 0 ∨ v = 1 → s.plat.phase ≠ .settled ∨ s.plat.settled = .run →
      exec (.setBsel .mgmt) s = .next (s.answered .mgmt 0x16 .busy noDetail).finish) ∧
    (v = 0 ∨ v = 1 → s.plat.phase = .settled → s.plat.settled ≠ .run → exec (.setBsel .mgmt) s =
      .next (State.finish (({ s.commanded .mgmt 0x16 with
        retained := { s.retained with bsel := decide (v = 1), checkGood := true } }).finished .mgmt .ok noDetail)))

/-- HOST_LOCK: off, on, or INVALID (R77, R179). -/
def Obligations.HostLockTakesOnlyZeroOrOne : Prop :=
  ∀ s : State, s.takesCommand .mgmt →
    let v := s.arg .mgmt 0
    (v = 0 → exec (.hostLock .mgmt) s =
      .next (State.finish (({ s.commanded .mgmt 0x17 with hostLock := false }).finished .mgmt .ok noDetail))) ∧
    (v = 1 → exec (.hostLock .mgmt) s =
      .next (State.finish (({ s.commanded .mgmt 0x17 with hostLock := true }).finished .mgmt .ok noDetail))) ∧
    (v ≠ 0 → v ≠ 1 → exec (.hostLock .mgmt) s = .next (s.answered .mgmt 0x17 .invalid noDetail).finish)

/-- CLEAR_RETAINED: the first fault becomes absent and retained lost clear; the record stays valid and its other fields stand (R167). -/
def Obligations.ClearRetainedClearsFirstFaultAndLost : Prop :=
  ∀ s : State, s.takesCommand .mgmt →
    exec (.clearRetained .mgmt) s = .next (State.finish (({ s.commanded .mgmt 0x18 with
      retained := { s.retained with firstFault := none, lost := false, checkGood := true } }).finished .mgmt .ok noDetail))

/-! ### Ports -/

/-- A code that names no command, any but 0x01 to 0x05 and 0x10 to 0x18, gives INVALID and does nothing else (R179). -/
def Obligations.UnknownCommandIsInvalid : Prop :=
  ∀ (s : State) (p : Port) (code : Byte), s.takesCommand p →
    ¬(1 ≤ code.toNat ∧ code.toNat ≤ 5) → ¬(0x10 ≤ code.toNat ∧ code.toNat ≤ 0x18) →
    exec (.unknownCommand p code) s = .next (s.answered p code .invalid noDetail).finish

/-- A Management Port command on the Host Port gives CLASS and nothing else (R179). That an UNKNOWN_COMMAND with such a code acts as the command it names is log 26. -/
def Obligations.ManagementCommandsOnTheHostPortGiveClass : Prop :=
  ∀ (s : State) (c : Instr) (code : Byte), s.takesCommand .host → c.byteAt = some (.host, 0x0020) →
    c.commandCode = some code → 0x10 ≤ code.toNat → code.toNat ≤ 0x18 →
    exec c s = .next (s.answered .host code .cls noDetail).finish

/-- A command byte written while the mailbox is BUSY is ignored and raises OVERRUN (R178). That an UNKNOWN_COMMAND with a code that names a command acts as that command is log 26. -/
def Obligations.BusyMailboxIgnoresCommands : Prop :=
  ∀ (s : State) (c : Instr) (p : Port) (code : Byte), s.takesByte p 0x0020 = true → (s.mailbox.get p).status = .busy →
    c.byteAt = some (p, 0x0020) → c.commandCode = some code →
    exec c s = .next (State.finish { s.byteTaken p 0x0020 with causes := s.causes.set p (s.causes.get p ||| 0x0200) })

/-- Cause acknowledge clears the event causes whose bits are set; a mask write replaces its byte, bits 10 to 15 staying 0. The causes pending at a port are its event causes and the three level causes; its attention line is low while one is pending and enabled, and the port is live (R180, R181). That mask bits 10 to 15 stay 0 is the model's choice (log 24). -/
def Obligations.AcknowledgeAndMaskActOnTheirOwnPort : Prop :=
  (∀ (s : State) (p : Port) (v : Byte),
    (s.takesByte p 0x0042 = true → exec (.causeAcknowledge p false v) s = .next (State.finish { s.byteTaken p 0x0042 with
      causes := s.causes.set p (s.causes.get p &&& ~~~(0#8 ++ v)) })) ∧
    (s.takesByte p 0x0043 = true → exec (.causeAcknowledge p true v) s = .next (State.finish { s.byteTaken p 0x0043 with
      causes := s.causes.set p (s.causes.get p &&& ~~~(v ++ 0#8)) })) ∧
    (s.takesByte p 0x0044 = true → ∃ m,
      exec (.maskWrite p false v) s = .next (State.finish { s.byteTaken p 0x0044 with masks := s.masks.set p m }) ∧
        m.truncate 8 = v ∧ m >>> 8 = (s.masks.get p >>> 8) &&& 0x0003) ∧
    (s.takesByte p 0x0045 = true → ∃ m,
      exec (.maskWrite p true v) s = .next (State.finish { s.byteTaken p 0x0045 with masks := s.masks.set p m }) ∧
        m.truncate 8 = (s.masks.get p).truncate 8 ∧ m >>> 8 = (0#8 ++ v) &&& 0x0003)) ∧
    ∀ (s : State) (p : Port),
      s.pendingCauses p = (s.causes.get p &&& 0x03F8) ||| (if s.completions.get p = [] then 0 else 0x0001) |||
        (if s.faults.log = [] then 0 else 0x0002) ||| (if s.plat.phase = .halted then 0x0004 else 0) ∧
      (s.attention .host = true ↔ s.hostLive = true ∧ s.pendingCauses .host &&& s.masks.host ≠ 0) ∧
      (s.attention .mgmt = true ↔ s.power = .running ∧ s.pendingCauses .mgmt &&& s.masks.mgmt ≠ 0)

/-- A byte written to any other location: an argument byte, a byte of the staged set, or VIOLATION with the location unchanged; which locations have a row of their own, and which bytes of the staged set may be written (R177, R178). -/
def Obligations.RegisterWritesStoreOrViolate : Prop :=
  (∀ (p : Port) (addr : Word),
    (hasOwnRow p addr = true ↔ addr.toNat = 0x20 ∨ (0x42 ≤ addr.toNat ∧ addr.toNat ≤ 0x45) ∨
      (p = .host ∧ (addr.toNat = 0x100 ∨ addr.toNat = 0x101))) ∧
    (isArgument addr = true ↔ 0x10 ≤ addr.toNat ∧ addr.toNat ≤ 0x1F) ∧
    (isStaged addr = true ↔ (0x400 ≤ addr.toNat ∧ addr.toNat ≤ 0x5FF ∧ addr.toNat % 16 ≠ 15) ∨
      (0x6A0 ≤ addr.toNat ∧ addr.toNat ≤ 0x6EF) ∨ addr.toNat = 0x780 ∨ (0x790 ≤ addr.toNat ∧ addr.toNat ≤ 0x7FF) ∨
      (0x820 ≤ addr.toNat ∧ addr.toNat ≤ 0x82E))) ∧
  ∀ (s : State) (p : Port) (addr : Word) (v : Byte), s.takesByte p addr = true →
    hasOwnRow p addr = false →
    (∀ i : Fin 16, addr.toNat = 0x10 + i.val →
      let m : Mailbox := { s.mailbox.get p with args := (s.mailbox.get p).args.set i.val v i.isLt }
      exec (.registerWrite p addr v) s =
        .next (State.finish { s.byteTaken p addr with mailbox := s.mailbox.set p m })) ∧
    (isArgument addr = false → p = .mgmt → isStaged addr = true →
      ∃ c, exec (.registerWrite p addr v) s = .next (State.finish { s.byteTaken p addr with staged := c }) ∧
        stagedByte c addr.toNat = v ∧
        ∀ a : Nat, a ≠ addr.toNat → stagedByte c a = stagedByte s.staged a) ∧
    (isArgument addr = false → (p = .host ∨ isStaged addr = false) → exec (.registerWrite p addr v) s =
      .next (State.finish { s.byteTaken p addr with causes := s.causes.set p (s.causes.get p ||| 0x0100) }))

/-- A forbidden read raises VIOLATION at its port, and the byte read is 0; only the staged set is forbidden, and only to the Host Port (R172, R177). What each port reads at each location of the window, by the map and the layouts (R182); an unmapped location reads 0 (R172). The bytes of an absent last match or first fault are free values (log 20) and absent fields of records 0xFF (log 29); none of these is stated. Which byte or bit of a record each block reads as which field (R2, R5, R121, R137, R152). That holds for every byte, and what a byte that no encoding names reads as is the model's choice (log 23): a level or target above 3 as none, a prerequisite byte of 32 to 254 as empty, a host node byte of 24 to 31 as that gate and of 32 to 254 as none, a wake line above 15 as no line, a stage count above 16 as all 16 stages, an auto-deep unit above 1 as minutes, and reserved bits are not read. That a read frame stands one past its last byte with a row is log 9. -/
def Obligations.ForbiddenReadsGiveZeroAndViolate : Prop :=
  (∀ (p : Port) (addr : Word), readForbidden p addr = true ↔ p = .host ∧ ((0x400 ≤ addr.toNat ∧ addr.toNat ≤ 0x5FF) ∨
    (0x6A0 ≤ addr.toNat ∧ addr.toNat ≤ 0x6EF) ∨ addr.toNat = 0x780 ∨ (0x790 ≤ addr.toNat ∧ addr.toNat ≤ 0x7FF) ∨
    (0x820 ≤ addr.toNat ∧ addr.toNat ≤ 0x82E))) ∧
  (∀ (s : State) (p : Port) (addr : Word), readForbidden p addr = true →
    p = .host ∧ s.windowByte p addr = 0 ∧
      (s.takesRead p addr = true → exec (.forbiddenRead p addr) s = .next (State.finish { s with
        frame := .read (addr + 1), causes := s.causes.set p (s.causes.get p ||| 0x0100) }))) ∧
    recordLayouts ∧ fieldReads ∧ fieldCodes ∧ ∀ (s : State) (p : Port),
      s.showsIdentity p ∧ s.showsMailbox p ∧ s.showsQueues p ∧ s.showsBlock p ∧ s.showsMonitor p ∧ s.showsNodes p ∧
        s.showsWakes p ∧ s.showsPlan p ∧ s.showsRetained p ∧ s.showsStaged p ∧ s.showsUnmapped p

/-- The Management Port's pointer: set by a write transfer, moved on by the bytes sent, kept by STOP and by a bus timeout. A byte is written at the pointer of a transfer that runs and nowhere else, so none is taken after STOP or a timeout (R175, R176). That the bytes sent are told by the command that ends the transfer is the model's choice (log 9). -/
def Obligations.TransfersMoveTheRegisterPointer : Prop :=
  ∀ (s : State) (addr sent : Word), s.power = .running →
    let ended : State := { s with pointer := s.pointer + sent, transfer := false }
    let begun : State := { s with pointer := addr, transfer := true }
    exec (.registerPointerSet addr) s = .next begun ∧ exec (.transferStop sent) s = .next ended ∧
      exec (.busTimeout sent) s = .next ended ∧ ∀ a,
        (begun.takesByte .mgmt a = true ↔ a = addr) ∧ ended.takesByte .mgmt a = false ∧
        (s.transfer = true → (s.byteTaken .mgmt addr).takesByte .mgmt a = true → a = addr + 1) ∧
        (s.takesByte .mgmt a = true ↔ s.transfer = true ∧ s.pointer = a) ∧ (s.takesRead .mgmt a = true ↔ s.pointer = a)

/-- A Host Port frame is taken while the port is live, ignored to its end while it is inert, and ends with nCS. Its header makes it a write frame, a read frame or an ignored one, and one with no complete header has no effect. A byte is written only in a write frame, one after the other from the header's address. A read frame shifts out a turnaround byte of 0, then the snapshot's data from the header's address on; it comes to a byte only past bytes that it may read. SDO is high-impedance while nCS is high or the port inert (R172, R173, R174). A second start inside a frame changes nothing (log 5); that the header is told with the start is log 8; that allowed reads and the turnaround byte have no row, so that a read frame passes over them to a later address, is log 9; that SDO is high-impedance in a frame that a live port ignores is log 32. Where the host node byte holds a value outside its encoding or range, the reading is the model's choice (log 23). -/
def Obligations.FramesAreTakenOnlyWhileLive : Prop :=
  ∀ s : State,
    (s.frame = .none → s.hostLive = true → ∀ a,
      exec (.frameStart (some ⟨0x00, a⟩)) s = .next { s with frame := .write a } ∧
      exec (.frameStart (some ⟨0x80, a⟩)) s = .next { s with frame := .turnaround a } ∧
      ∀ d, d ≠ 0x00 → d ≠ 0x80 → exec (.frameStart (some ⟨d, a⟩)) s = .next { s with frame := .ignored }) ∧
    (s.frame = .none → s.hostLive = true → exec (.frameStart none) s = .next { s with frame := .opened }) ∧
    (s.frame = .none → s.hostLive = false → ∀ header, exec (.frameStart header) s = .next { s with frame := .ignored }) ∧
    (s.frame ≠ .none → ∀ header, exec (.frameStart header) s = .next s) ∧
    exec .frameEnd s = .next { s with frame := .none } ∧
    (s.hostLive = true ↔ s.power = .running ∧
      ∀ n, s.active.policy.hostNodeOf = some n → s.nodeState n = .on) ∧
    (∀ a, (s.takesByte .host a = true ↔ s.hostLive = true ∧ s.frame = .write a) ∧
      (∀ b, (s.byteTaken .host a).takesByte .host b = true → b = a + 1) ∧
      (s.takesRead .host a = true ↔ s.hostLive = true ∧ ∃ b, (s.frame = .turnaround b ∨ s.frame = .read b) ∧
        ∀ k < (a - b).toNat, readForbidden .host (b + BitVec.ofNat 16 k) = false)) ∧
    (∀ a n, s.shiftedOut a n = 0 :: (List.range n).map fun i => s.windowByte .host (a + BitVec.ofNat 16 i)) ∧
    (s.sdoHighZ = true ↔ s.hostLive = false ∨ s.frame = .none ∨ s.frame = .ignored)

/-! ### Laws every step keeps -/

/-- Every step keeps the ready queue: exactly the READY nodes, each once, in order (R43, R44). -/
def Obligations.EveryStepKeepsTheReadyQueue : Prop :=
  ∀ s t : State, s.readyLaw → step s = .next t → t.readyLaw

/-- Every step keeps the charges: one in exactly RISING and SETTLING, the budget in use their sum, never above the budget (R42, R47, R49). -/
def Obligations.EveryStepKeepsTheBudget : Prop :=
  ∀ s t : State, s.readyLaw → s.chargeLaw → s.budgetLaw → s.platformLaw → step s = .next t → t.chargeLaw ∧ t.budgetLaw

/-- Every step keeps every energized used node standing on prerequisites that are ON, and each timer in its own state (R18, R31, R33). -/
def Obligations.EveryStepKeepsPrerequisitesOn : Prop :=
  ∀ s t : State, s.readyLaw → s.timerLaw → s.energizedLaw → step s = .next t → t.energizedLaw ∧ t.timerLaw

/-- Every step keeps the platform record coherent, HALTED at a standstill and the idle timer to SETTLED at STANDBY (R51, R52, R95, R109). -/
def Obligations.EveryStepKeepsThePlatformRecord : Prop :=
  ∀ s t : State, s.platformLaw → step s = .next t → t.platformLaw

/-- Every step keeps one request per source in the queue and at most four completions, queued and in-flight requests per port (R78, R79). -/
def Obligations.EveryStepKeepsQueueAndQuota : Prop :=
  ∀ s t : State, s.queueLaw → s.quotaLaw → step s = .next t → t.queueLaw ∧ t.quotaLaw

/-- Every step keeps the fault log's numbers, the progress log's size, and the deadline to ARMED (R115, R117, R136, R139); and a boot is watched only in SETTLED at RUN or in a transition whose target is RUN with no via and no recycle (R139). -/
def Obligations.EveryStepKeepsTheLogsAndTheMonitor : Prop :=
  (∀ s t : State, s.faults.law → s.monitor.logLaw → s.monitorLaw → step s = .next t →
    t.faults.law ∧ t.monitor.logLaw ∧ t.monitorLaw) ∧
    ∀ s t : State, s.lawful → step s = .next t → t.watchLaw

/-- Every step keeps the active set valid, with every marked image and every image being stored (R151). A set is valid when none of the checks fails in it, and the failure reported is the failing check that comes first: RANGE of the policy record by field, the three passes over the node table (RANGE and GATE_MODE; BAD_PREREQ, LEVEL_ORDER and WEIGHT; CYCLE), HOST_NODE, RANGE and WAKE_TARGET of the wake table by entry, then RANGE and PLAN_OVERLAP of the plan by stage (R14, R15, R16, R17, R122, R138, R152, R153, R155). -/
def Obligations.EveryStepKeepsTheActiveSetValid : Prop :=
  (∀ s t : State, s.configLaw → step s = .next t → t.configLaw) ∧
    ∀ c : ConfigSet, (c.valid = true ↔ ∀ f, ¬c.fails f) ∧ (c.failure = none ↔ ∀ f, ¬c.fails f) ∧
      ∀ f, c.failure = some f ↔ c.fails f ∧ ∀ g, c.fails g → f.turn ≤ g.turn

/-- Every step keeps the retained record valid once checked, BUSY to the Management Port while a STORE runs, and causes and masks to their bits (R164, R178, R180, R182). -/
def Obligations.EveryStepKeepsRecordMailboxAndCauses : Prop :=
  ∀ s t : State, s.retainedLaw → s.mailboxLaw → s.causeLaw → step s = .next t →
    t.retainedLaw ∧ t.mailboxLaw ∧ t.causeLaw

end
end

