-- ==== Sys2Proof/Laws/State.lean ====
section
/-! SUPPORT. Each field after each elementary update of the state, true by rfl, so that no proof unfolds a record update. -/

namespace Sys2Proof.Machine

/-! ### setNode -/

@[simp] theorem setNode_inputs (s : State) (n : NodeId) (l : NodeLive) : (s.setNode n l).inputs = s.inputs := rfl
@[simp] theorem setNode_power (s : State) (n : NodeId) (l : NodeLive) : (s.setNode n l).power = s.power := rfl
@[simp] theorem setNode_stepFour (s : State) (n : NodeId) (l : NodeLive) : (s.setNode n l).stepFour = s.stepFour := rfl
@[simp] theorem setNode_address (s : State) (n : NodeId) (l : NodeLive) : (s.setNode n l).address = s.address := rfl
@[simp] theorem setNode_uptime (s : State) (n : NodeId) (l : NodeLive) : (s.setNode n l).uptime = s.uptime := rfl
@[simp] theorem setNode_active (s : State) (n : NodeId) (l : NodeLive) : (s.setNode n l).active = s.active := rfl
@[simp] theorem setNode_staged (s : State) (n : NodeId) (l : NodeLive) : (s.setNode n l).staged = s.staged := rfl
@[simp] theorem setNode_bank0 (s : State) (n : NodeId) (l : NodeLive) : (s.setNode n l).bank0 = s.bank0 := rfl
@[simp] theorem setNode_bank1 (s : State) (n : NodeId) (l : NodeLive) : (s.setNode n l).bank1 = s.bank1 := rfl
@[simp] theorem setNode_loadedBank (s : State) (n : NodeId) (l : NodeLive) : (s.setNode n l).loadedBank = s.loadedBank := rfl
@[simp] theorem setNode_imageBad (s : State) (n : NodeId) (l : NodeLive) : (s.setNode n l).imageBad = s.imageBad := rfl
@[simp] theorem setNode_storeJob (s : State) (n : NodeId) (l : NodeLive) : (s.setNode n l).storeJob = s.storeJob := rfl
@[simp] theorem setNode_nodes (s : State) (n : NodeId) (l : NodeLive) : (s.setNode n l).nodes = s.nodes.set n.val l n.isLt := rfl
@[simp] theorem setNode_budgetInUse (s : State) (n : NodeId) (l : NodeLive) : (s.setNode n l).budgetInUse = s.budgetInUse := rfl
@[simp] theorem setNode_ready (s : State) (n : NodeId) (l : NodeLive) : (s.setNode n l).ready = s.ready := rfl
@[simp] theorem setNode_plat (s : State) (n : NodeId) (l : NodeLive) : (s.setNode n l).plat = s.plat := rfl
@[simp] theorem setNode_queue (s : State) (n : NodeId) (l : NodeLive) : (s.setNode n l).queue = s.queue := rfl
@[simp] theorem setNode_hostLock (s : State) (n : NodeId) (l : NodeLive) : (s.setNode n l).hostLock = s.hostLock := rfl
@[simp] theorem setNode_button (s : State) (n : NodeId) (l : NodeLive) : (s.setNode n l).button = s.button := rfl
@[simp] theorem setNode_idle (s : State) (n : NodeId) (l : NodeLive) : (s.setNode n l).idle = s.idle := rfl
@[simp] theorem setNode_faults (s : State) (n : NodeId) (l : NodeLive) : (s.setNode n l).faults = s.faults := rfl
@[simp] theorem setNode_wakes (s : State) (n : NodeId) (l : NodeLive) : (s.setNode n l).wakes = s.wakes := rfl
@[simp] theorem setNode_monitor (s : State) (n : NodeId) (l : NodeLive) : (s.setNode n l).monitor = s.monitor := rfl
@[simp] theorem setNode_retained (s : State) (n : NodeId) (l : NodeLive) : (s.setNode n l).retained = s.retained := rfl
@[simp] theorem setNode_mailbox (s : State) (n : NodeId) (l : NodeLive) : (s.setNode n l).mailbox = s.mailbox := rfl
@[simp] theorem setNode_completions (s : State) (n : NodeId) (l : NodeLive) : (s.setNode n l).completions = s.completions := rfl
@[simp] theorem setNode_causes (s : State) (n : NodeId) (l : NodeLive) : (s.setNode n l).causes = s.causes := rfl
@[simp] theorem setNode_masks (s : State) (n : NodeId) (l : NodeLive) : (s.setNode n l).masks = s.masks := rfl
@[simp] theorem setNode_frame (s : State) (n : NodeId) (l : NodeLive) : (s.setNode n l).frame = s.frame := rfl
@[simp] theorem setNode_pointer (s : State) (n : NodeId) (l : NodeLive) : (s.setNode n l).pointer = s.pointer := rfl
@[simp] theorem setNode_transfer (s : State) (n : NodeId) (l : NodeLive) : (s.setNode n l).transfer = s.transfer := rfl
@[simp] theorem setNode_lineChanges (s : State) (n : NodeId) (l : NodeLive) : (s.setNode n l).lineChanges = s.lineChanges := rfl
@[simp] theorem setNode_freeCount (s : State) (n : NodeId) (l : NodeLive) : (s.setNode n l).freeCount = s.freeCount := rfl
@[simp] theorem setNode_pending (s : State) (n : NodeId) (l : NodeLive) : (s.setNode n l).pending = s.pending := rfl

/-! ### setWake -/

@[simp] theorem setWake_inputs (s : State) (e : Fin 16) (w : WakeLive) : (s.setWake e w).inputs = s.inputs := rfl
@[simp] theorem setWake_power (s : State) (e : Fin 16) (w : WakeLive) : (s.setWake e w).power = s.power := rfl
@[simp] theorem setWake_stepFour (s : State) (e : Fin 16) (w : WakeLive) : (s.setWake e w).stepFour = s.stepFour := rfl
@[simp] theorem setWake_address (s : State) (e : Fin 16) (w : WakeLive) : (s.setWake e w).address = s.address := rfl
@[simp] theorem setWake_uptime (s : State) (e : Fin 16) (w : WakeLive) : (s.setWake e w).uptime = s.uptime := rfl
@[simp] theorem setWake_active (s : State) (e : Fin 16) (w : WakeLive) : (s.setWake e w).active = s.active := rfl
@[simp] theorem setWake_staged (s : State) (e : Fin 16) (w : WakeLive) : (s.setWake e w).staged = s.staged := rfl
@[simp] theorem setWake_bank0 (s : State) (e : Fin 16) (w : WakeLive) : (s.setWake e w).bank0 = s.bank0 := rfl
@[simp] theorem setWake_bank1 (s : State) (e : Fin 16) (w : WakeLive) : (s.setWake e w).bank1 = s.bank1 := rfl
@[simp] theorem setWake_loadedBank (s : State) (e : Fin 16) (w : WakeLive) : (s.setWake e w).loadedBank = s.loadedBank := rfl
@[simp] theorem setWake_imageBad (s : State) (e : Fin 16) (w : WakeLive) : (s.setWake e w).imageBad = s.imageBad := rfl
@[simp] theorem setWake_storeJob (s : State) (e : Fin 16) (w : WakeLive) : (s.setWake e w).storeJob = s.storeJob := rfl
@[simp] theorem setWake_nodes (s : State) (e : Fin 16) (w : WakeLive) : (s.setWake e w).nodes = s.nodes := rfl
@[simp] theorem setWake_budgetInUse (s : State) (e : Fin 16) (w : WakeLive) : (s.setWake e w).budgetInUse = s.budgetInUse := rfl
@[simp] theorem setWake_ready (s : State) (e : Fin 16) (w : WakeLive) : (s.setWake e w).ready = s.ready := rfl
@[simp] theorem setWake_plat (s : State) (e : Fin 16) (w : WakeLive) : (s.setWake e w).plat = s.plat := rfl
@[simp] theorem setWake_queue (s : State) (e : Fin 16) (w : WakeLive) : (s.setWake e w).queue = s.queue := rfl
@[simp] theorem setWake_hostLock (s : State) (e : Fin 16) (w : WakeLive) : (s.setWake e w).hostLock = s.hostLock := rfl
@[simp] theorem setWake_button (s : State) (e : Fin 16) (w : WakeLive) : (s.setWake e w).button = s.button := rfl
@[simp] theorem setWake_idle (s : State) (e : Fin 16) (w : WakeLive) : (s.setWake e w).idle = s.idle := rfl
@[simp] theorem setWake_faults (s : State) (e : Fin 16) (w : WakeLive) : (s.setWake e w).faults = s.faults := rfl
@[simp] theorem setWake_wakes (s : State) (e : Fin 16) (w : WakeLive) : (s.setWake e w).wakes = s.wakes.set e.val w e.isLt := rfl
@[simp] theorem setWake_monitor (s : State) (e : Fin 16) (w : WakeLive) : (s.setWake e w).monitor = s.monitor := rfl
@[simp] theorem setWake_retained (s : State) (e : Fin 16) (w : WakeLive) : (s.setWake e w).retained = s.retained := rfl
@[simp] theorem setWake_mailbox (s : State) (e : Fin 16) (w : WakeLive) : (s.setWake e w).mailbox = s.mailbox := rfl
@[simp] theorem setWake_completions (s : State) (e : Fin 16) (w : WakeLive) : (s.setWake e w).completions = s.completions := rfl
@[simp] theorem setWake_causes (s : State) (e : Fin 16) (w : WakeLive) : (s.setWake e w).causes = s.causes := rfl
@[simp] theorem setWake_masks (s : State) (e : Fin 16) (w : WakeLive) : (s.setWake e w).masks = s.masks := rfl
@[simp] theorem setWake_frame (s : State) (e : Fin 16) (w : WakeLive) : (s.setWake e w).frame = s.frame := rfl
@[simp] theorem setWake_pointer (s : State) (e : Fin 16) (w : WakeLive) : (s.setWake e w).pointer = s.pointer := rfl
@[simp] theorem setWake_transfer (s : State) (e : Fin 16) (w : WakeLive) : (s.setWake e w).transfer = s.transfer := rfl
@[simp] theorem setWake_lineChanges (s : State) (e : Fin 16) (w : WakeLive) : (s.setWake e w).lineChanges = s.lineChanges := rfl
@[simp] theorem setWake_freeCount (s : State) (e : Fin 16) (w : WakeLive) : (s.setWake e w).freeCount = s.freeCount := rfl
@[simp] theorem setWake_pending (s : State) (e : Fin 16) (w : WakeLive) : (s.setWake e w).pending = s.pending := rfl

/-! ### setMailbox -/

@[simp] theorem setMailbox_inputs (s : State) (p : Port) (m : Mailbox) : (s.setMailbox p m).inputs = s.inputs := rfl
@[simp] theorem setMailbox_power (s : State) (p : Port) (m : Mailbox) : (s.setMailbox p m).power = s.power := rfl
@[simp] theorem setMailbox_stepFour (s : State) (p : Port) (m : Mailbox) : (s.setMailbox p m).stepFour = s.stepFour := rfl
@[simp] theorem setMailbox_address (s : State) (p : Port) (m : Mailbox) : (s.setMailbox p m).address = s.address := rfl
@[simp] theorem setMailbox_uptime (s : State) (p : Port) (m : Mailbox) : (s.setMailbox p m).uptime = s.uptime := rfl
@[simp] theorem setMailbox_active (s : State) (p : Port) (m : Mailbox) : (s.setMailbox p m).active = s.active := rfl
@[simp] theorem setMailbox_staged (s : State) (p : Port) (m : Mailbox) : (s.setMailbox p m).staged = s.staged := rfl
@[simp] theorem setMailbox_bank0 (s : State) (p : Port) (m : Mailbox) : (s.setMailbox p m).bank0 = s.bank0 := rfl
@[simp] theorem setMailbox_bank1 (s : State) (p : Port) (m : Mailbox) : (s.setMailbox p m).bank1 = s.bank1 := rfl
@[simp] theorem setMailbox_loadedBank (s : State) (p : Port) (m : Mailbox) : (s.setMailbox p m).loadedBank = s.loadedBank := rfl
@[simp] theorem setMailbox_imageBad (s : State) (p : Port) (m : Mailbox) : (s.setMailbox p m).imageBad = s.imageBad := rfl
@[simp] theorem setMailbox_storeJob (s : State) (p : Port) (m : Mailbox) : (s.setMailbox p m).storeJob = s.storeJob := rfl
@[simp] theorem setMailbox_nodes (s : State) (p : Port) (m : Mailbox) : (s.setMailbox p m).nodes = s.nodes := rfl
@[simp] theorem setMailbox_budgetInUse (s : State) (p : Port) (m : Mailbox) : (s.setMailbox p m).budgetInUse = s.budgetInUse := rfl
@[simp] theorem setMailbox_ready (s : State) (p : Port) (m : Mailbox) : (s.setMailbox p m).ready = s.ready := rfl
@[simp] theorem setMailbox_plat (s : State) (p : Port) (m : Mailbox) : (s.setMailbox p m).plat = s.plat := rfl
@[simp] theorem setMailbox_queue (s : State) (p : Port) (m : Mailbox) : (s.setMailbox p m).queue = s.queue := rfl
@[simp] theorem setMailbox_hostLock (s : State) (p : Port) (m : Mailbox) : (s.setMailbox p m).hostLock = s.hostLock := rfl
@[simp] theorem setMailbox_button (s : State) (p : Port) (m : Mailbox) : (s.setMailbox p m).button = s.button := rfl
@[simp] theorem setMailbox_idle (s : State) (p : Port) (m : Mailbox) : (s.setMailbox p m).idle = s.idle := rfl
@[simp] theorem setMailbox_faults (s : State) (p : Port) (m : Mailbox) : (s.setMailbox p m).faults = s.faults := rfl
@[simp] theorem setMailbox_wakes (s : State) (p : Port) (m : Mailbox) : (s.setMailbox p m).wakes = s.wakes := rfl
@[simp] theorem setMailbox_monitor (s : State) (p : Port) (m : Mailbox) : (s.setMailbox p m).monitor = s.monitor := rfl
@[simp] theorem setMailbox_retained (s : State) (p : Port) (m : Mailbox) : (s.setMailbox p m).retained = s.retained := rfl
@[simp] theorem setMailbox_mailbox (s : State) (p : Port) (m : Mailbox) : (s.setMailbox p m).mailbox = s.mailbox.set p m := rfl
@[simp] theorem setMailbox_completions (s : State) (p : Port) (m : Mailbox) : (s.setMailbox p m).completions = s.completions := rfl
@[simp] theorem setMailbox_causes (s : State) (p : Port) (m : Mailbox) : (s.setMailbox p m).causes = s.causes := rfl
@[simp] theorem setMailbox_masks (s : State) (p : Port) (m : Mailbox) : (s.setMailbox p m).masks = s.masks := rfl
@[simp] theorem setMailbox_frame (s : State) (p : Port) (m : Mailbox) : (s.setMailbox p m).frame = s.frame := rfl
@[simp] theorem setMailbox_pointer (s : State) (p : Port) (m : Mailbox) : (s.setMailbox p m).pointer = s.pointer := rfl
@[simp] theorem setMailbox_transfer (s : State) (p : Port) (m : Mailbox) : (s.setMailbox p m).transfer = s.transfer := rfl
@[simp] theorem setMailbox_lineChanges (s : State) (p : Port) (m : Mailbox) : (s.setMailbox p m).lineChanges = s.lineChanges := rfl
@[simp] theorem setMailbox_freeCount (s : State) (p : Port) (m : Mailbox) : (s.setMailbox p m).freeCount = s.freeCount := rfl
@[simp] theorem setMailbox_pending (s : State) (p : Port) (m : Mailbox) : (s.setMailbox p m).pending = s.pending := rfl

/-! ### raise -/

@[simp] theorem raise_inputs (s : State) (p : Port) (c : Cause) : (s.raise p c).inputs = s.inputs := rfl
@[simp] theorem raise_power (s : State) (p : Port) (c : Cause) : (s.raise p c).power = s.power := rfl
@[simp] theorem raise_stepFour (s : State) (p : Port) (c : Cause) : (s.raise p c).stepFour = s.stepFour := rfl
@[simp] theorem raise_address (s : State) (p : Port) (c : Cause) : (s.raise p c).address = s.address := rfl
@[simp] theorem raise_uptime (s : State) (p : Port) (c : Cause) : (s.raise p c).uptime = s.uptime := rfl
@[simp] theorem raise_active (s : State) (p : Port) (c : Cause) : (s.raise p c).active = s.active := rfl
@[simp] theorem raise_staged (s : State) (p : Port) (c : Cause) : (s.raise p c).staged = s.staged := rfl
@[simp] theorem raise_bank0 (s : State) (p : Port) (c : Cause) : (s.raise p c).bank0 = s.bank0 := rfl
@[simp] theorem raise_bank1 (s : State) (p : Port) (c : Cause) : (s.raise p c).bank1 = s.bank1 := rfl
@[simp] theorem raise_loadedBank (s : State) (p : Port) (c : Cause) : (s.raise p c).loadedBank = s.loadedBank := rfl
@[simp] theorem raise_imageBad (s : State) (p : Port) (c : Cause) : (s.raise p c).imageBad = s.imageBad := rfl
@[simp] theorem raise_storeJob (s : State) (p : Port) (c : Cause) : (s.raise p c).storeJob = s.storeJob := rfl
@[simp] theorem raise_nodes (s : State) (p : Port) (c : Cause) : (s.raise p c).nodes = s.nodes := rfl
@[simp] theorem raise_budgetInUse (s : State) (p : Port) (c : Cause) : (s.raise p c).budgetInUse = s.budgetInUse := rfl
@[simp] theorem raise_ready (s : State) (p : Port) (c : Cause) : (s.raise p c).ready = s.ready := rfl
@[simp] theorem raise_plat (s : State) (p : Port) (c : Cause) : (s.raise p c).plat = s.plat := rfl
@[simp] theorem raise_queue (s : State) (p : Port) (c : Cause) : (s.raise p c).queue = s.queue := rfl
@[simp] theorem raise_hostLock (s : State) (p : Port) (c : Cause) : (s.raise p c).hostLock = s.hostLock := rfl
@[simp] theorem raise_button (s : State) (p : Port) (c : Cause) : (s.raise p c).button = s.button := rfl
@[simp] theorem raise_idle (s : State) (p : Port) (c : Cause) : (s.raise p c).idle = s.idle := rfl
@[simp] theorem raise_faults (s : State) (p : Port) (c : Cause) : (s.raise p c).faults = s.faults := rfl
@[simp] theorem raise_wakes (s : State) (p : Port) (c : Cause) : (s.raise p c).wakes = s.wakes := rfl
@[simp] theorem raise_monitor (s : State) (p : Port) (c : Cause) : (s.raise p c).monitor = s.monitor := rfl
@[simp] theorem raise_retained (s : State) (p : Port) (c : Cause) : (s.raise p c).retained = s.retained := rfl
@[simp] theorem raise_mailbox (s : State) (p : Port) (c : Cause) : (s.raise p c).mailbox = s.mailbox := rfl
@[simp] theorem raise_completions (s : State) (p : Port) (c : Cause) : (s.raise p c).completions = s.completions := rfl
@[simp] theorem raise_causes (s : State) (p : Port) (c : Cause) : (s.raise p c).causes = s.causes.set p (s.causes.get p ||| c.word) := rfl
@[simp] theorem raise_masks (s : State) (p : Port) (c : Cause) : (s.raise p c).masks = s.masks := rfl
@[simp] theorem raise_frame (s : State) (p : Port) (c : Cause) : (s.raise p c).frame = s.frame := rfl
@[simp] theorem raise_pointer (s : State) (p : Port) (c : Cause) : (s.raise p c).pointer = s.pointer := rfl
@[simp] theorem raise_transfer (s : State) (p : Port) (c : Cause) : (s.raise p c).transfer = s.transfer := rfl
@[simp] theorem raise_lineChanges (s : State) (p : Port) (c : Cause) : (s.raise p c).lineChanges = s.lineChanges := rfl
@[simp] theorem raise_freeCount (s : State) (p : Port) (c : Cause) : (s.raise p c).freeCount = s.freeCount := rfl
@[simp] theorem raise_pending (s : State) (p : Port) (c : Cause) : (s.raise p c).pending = s.pending := rfl

/-! ### leaveReady -/

@[simp] theorem leaveReady_inputs (s : State) (n : NodeId) : (s.leaveReady n).inputs = s.inputs := rfl
@[simp] theorem leaveReady_power (s : State) (n : NodeId) : (s.leaveReady n).power = s.power := rfl
@[simp] theorem leaveReady_stepFour (s : State) (n : NodeId) : (s.leaveReady n).stepFour = s.stepFour := rfl
@[simp] theorem leaveReady_address (s : State) (n : NodeId) : (s.leaveReady n).address = s.address := rfl
@[simp] theorem leaveReady_uptime (s : State) (n : NodeId) : (s.leaveReady n).uptime = s.uptime := rfl
@[simp] theorem leaveReady_active (s : State) (n : NodeId) : (s.leaveReady n).active = s.active := rfl
@[simp] theorem leaveReady_staged (s : State) (n : NodeId) : (s.leaveReady n).staged = s.staged := rfl
@[simp] theorem leaveReady_bank0 (s : State) (n : NodeId) : (s.leaveReady n).bank0 = s.bank0 := rfl
@[simp] theorem leaveReady_bank1 (s : State) (n : NodeId) : (s.leaveReady n).bank1 = s.bank1 := rfl
@[simp] theorem leaveReady_loadedBank (s : State) (n : NodeId) : (s.leaveReady n).loadedBank = s.loadedBank := rfl
@[simp] theorem leaveReady_imageBad (s : State) (n : NodeId) : (s.leaveReady n).imageBad = s.imageBad := rfl
@[simp] theorem leaveReady_storeJob (s : State) (n : NodeId) : (s.leaveReady n).storeJob = s.storeJob := rfl
@[simp] theorem leaveReady_nodes (s : State) (n : NodeId) : (s.leaveReady n).nodes = s.nodes := rfl
@[simp] theorem leaveReady_budgetInUse (s : State) (n : NodeId) : (s.leaveReady n).budgetInUse = s.budgetInUse := rfl
@[simp] theorem leaveReady_ready (s : State) (n : NodeId) : (s.leaveReady n).ready = s.ready.filter fun e => e.node != n := rfl
@[simp] theorem leaveReady_plat (s : State) (n : NodeId) : (s.leaveReady n).plat = s.plat := rfl
@[simp] theorem leaveReady_queue (s : State) (n : NodeId) : (s.leaveReady n).queue = s.queue := rfl
@[simp] theorem leaveReady_hostLock (s : State) (n : NodeId) : (s.leaveReady n).hostLock = s.hostLock := rfl
@[simp] theorem leaveReady_button (s : State) (n : NodeId) : (s.leaveReady n).button = s.button := rfl
@[simp] theorem leaveReady_idle (s : State) (n : NodeId) : (s.leaveReady n).idle = s.idle := rfl
@[simp] theorem leaveReady_faults (s : State) (n : NodeId) : (s.leaveReady n).faults = s.faults := rfl
@[simp] theorem leaveReady_wakes (s : State) (n : NodeId) : (s.leaveReady n).wakes = s.wakes := rfl
@[simp] theorem leaveReady_monitor (s : State) (n : NodeId) : (s.leaveReady n).monitor = s.monitor := rfl
@[simp] theorem leaveReady_retained (s : State) (n : NodeId) : (s.leaveReady n).retained = s.retained := rfl
@[simp] theorem leaveReady_mailbox (s : State) (n : NodeId) : (s.leaveReady n).mailbox = s.mailbox := rfl
@[simp] theorem leaveReady_completions (s : State) (n : NodeId) : (s.leaveReady n).completions = s.completions := rfl
@[simp] theorem leaveReady_causes (s : State) (n : NodeId) : (s.leaveReady n).causes = s.causes := rfl
@[simp] theorem leaveReady_masks (s : State) (n : NodeId) : (s.leaveReady n).masks = s.masks := rfl
@[simp] theorem leaveReady_frame (s : State) (n : NodeId) : (s.leaveReady n).frame = s.frame := rfl
@[simp] theorem leaveReady_pointer (s : State) (n : NodeId) : (s.leaveReady n).pointer = s.pointer := rfl
@[simp] theorem leaveReady_transfer (s : State) (n : NodeId) : (s.leaveReady n).transfer = s.transfer := rfl
@[simp] theorem leaveReady_lineChanges (s : State) (n : NodeId) : (s.leaveReady n).lineChanges = s.lineChanges := rfl
@[simp] theorem leaveReady_freeCount (s : State) (n : NodeId) : (s.leaveReady n).freeCount = s.freeCount := rfl
@[simp] theorem leaveReady_pending (s : State) (n : NodeId) : (s.leaveReady n).pending = s.pending := rfl

/-! ### joinReady -/

@[simp] theorem joinReady_inputs (s : State) (n : NodeId) : (s.joinReady n).inputs = s.inputs := rfl
@[simp] theorem joinReady_power (s : State) (n : NodeId) : (s.joinReady n).power = s.power := rfl
@[simp] theorem joinReady_stepFour (s : State) (n : NodeId) : (s.joinReady n).stepFour = s.stepFour := rfl
@[simp] theorem joinReady_address (s : State) (n : NodeId) : (s.joinReady n).address = s.address := rfl
@[simp] theorem joinReady_uptime (s : State) (n : NodeId) : (s.joinReady n).uptime = s.uptime := rfl
@[simp] theorem joinReady_active (s : State) (n : NodeId) : (s.joinReady n).active = s.active := rfl
@[simp] theorem joinReady_staged (s : State) (n : NodeId) : (s.joinReady n).staged = s.staged := rfl
@[simp] theorem joinReady_bank0 (s : State) (n : NodeId) : (s.joinReady n).bank0 = s.bank0 := rfl
@[simp] theorem joinReady_bank1 (s : State) (n : NodeId) : (s.joinReady n).bank1 = s.bank1 := rfl
@[simp] theorem joinReady_loadedBank (s : State) (n : NodeId) : (s.joinReady n).loadedBank = s.loadedBank := rfl
@[simp] theorem joinReady_imageBad (s : State) (n : NodeId) : (s.joinReady n).imageBad = s.imageBad := rfl
@[simp] theorem joinReady_storeJob (s : State) (n : NodeId) : (s.joinReady n).storeJob = s.storeJob := rfl
@[simp] theorem joinReady_nodes (s : State) (n : NodeId) : (s.joinReady n).nodes = s.nodes := rfl
@[simp] theorem joinReady_budgetInUse (s : State) (n : NodeId) : (s.joinReady n).budgetInUse = s.budgetInUse := rfl
@[simp] theorem joinReady_ready (s : State) (n : NodeId) : (s.joinReady n).ready = insertReady ⟨n, (s.record n).priority.toNat⟩ s.ready := rfl
@[simp] theorem joinReady_plat (s : State) (n : NodeId) : (s.joinReady n).plat = s.plat := rfl
@[simp] theorem joinReady_queue (s : State) (n : NodeId) : (s.joinReady n).queue = s.queue := rfl
@[simp] theorem joinReady_hostLock (s : State) (n : NodeId) : (s.joinReady n).hostLock = s.hostLock := rfl
@[simp] theorem joinReady_button (s : State) (n : NodeId) : (s.joinReady n).button = s.button := rfl
@[simp] theorem joinReady_idle (s : State) (n : NodeId) : (s.joinReady n).idle = s.idle := rfl
@[simp] theorem joinReady_faults (s : State) (n : NodeId) : (s.joinReady n).faults = s.faults := rfl
@[simp] theorem joinReady_wakes (s : State) (n : NodeId) : (s.joinReady n).wakes = s.wakes := rfl
@[simp] theorem joinReady_monitor (s : State) (n : NodeId) : (s.joinReady n).monitor = s.monitor := rfl
@[simp] theorem joinReady_retained (s : State) (n : NodeId) : (s.joinReady n).retained = s.retained := rfl
@[simp] theorem joinReady_mailbox (s : State) (n : NodeId) : (s.joinReady n).mailbox = s.mailbox := rfl
@[simp] theorem joinReady_completions (s : State) (n : NodeId) : (s.joinReady n).completions = s.completions := rfl
@[simp] theorem joinReady_causes (s : State) (n : NodeId) : (s.joinReady n).causes = s.causes := rfl
@[simp] theorem joinReady_masks (s : State) (n : NodeId) : (s.joinReady n).masks = s.masks := rfl
@[simp] theorem joinReady_frame (s : State) (n : NodeId) : (s.joinReady n).frame = s.frame := rfl
@[simp] theorem joinReady_pointer (s : State) (n : NodeId) : (s.joinReady n).pointer = s.pointer := rfl
@[simp] theorem joinReady_transfer (s : State) (n : NodeId) : (s.joinReady n).transfer = s.transfer := rfl
@[simp] theorem joinReady_lineChanges (s : State) (n : NodeId) : (s.joinReady n).lineChanges = s.lineChanges := rfl
@[simp] theorem joinReady_freeCount (s : State) (n : NodeId) : (s.joinReady n).freeCount = s.freeCount := rfl
@[simp] theorem joinReady_pending (s : State) (n : NodeId) : (s.joinReady n).pending = s.pending := rfl

/-! ### withPending -/

@[simp] theorem withPending_inputs (s : State) (q : List Instr) : (s.withPending q).inputs = s.inputs := rfl
@[simp] theorem withPending_power (s : State) (q : List Instr) : (s.withPending q).power = s.power := rfl
@[simp] theorem withPending_stepFour (s : State) (q : List Instr) : (s.withPending q).stepFour = s.stepFour := rfl
@[simp] theorem withPending_address (s : State) (q : List Instr) : (s.withPending q).address = s.address := rfl
@[simp] theorem withPending_uptime (s : State) (q : List Instr) : (s.withPending q).uptime = s.uptime := rfl
@[simp] theorem withPending_active (s : State) (q : List Instr) : (s.withPending q).active = s.active := rfl
@[simp] theorem withPending_staged (s : State) (q : List Instr) : (s.withPending q).staged = s.staged := rfl
@[simp] theorem withPending_bank0 (s : State) (q : List Instr) : (s.withPending q).bank0 = s.bank0 := rfl
@[simp] theorem withPending_bank1 (s : State) (q : List Instr) : (s.withPending q).bank1 = s.bank1 := rfl
@[simp] theorem withPending_loadedBank (s : State) (q : List Instr) : (s.withPending q).loadedBank = s.loadedBank := rfl
@[simp] theorem withPending_imageBad (s : State) (q : List Instr) : (s.withPending q).imageBad = s.imageBad := rfl
@[simp] theorem withPending_storeJob (s : State) (q : List Instr) : (s.withPending q).storeJob = s.storeJob := rfl
@[simp] theorem withPending_nodes (s : State) (q : List Instr) : (s.withPending q).nodes = s.nodes := rfl
@[simp] theorem withPending_budgetInUse (s : State) (q : List Instr) : (s.withPending q).budgetInUse = s.budgetInUse := rfl
@[simp] theorem withPending_ready (s : State) (q : List Instr) : (s.withPending q).ready = s.ready := rfl
@[simp] theorem withPending_plat (s : State) (q : List Instr) : (s.withPending q).plat = s.plat := rfl
@[simp] theorem withPending_queue (s : State) (q : List Instr) : (s.withPending q).queue = s.queue := rfl
@[simp] theorem withPending_hostLock (s : State) (q : List Instr) : (s.withPending q).hostLock = s.hostLock := rfl
@[simp] theorem withPending_button (s : State) (q : List Instr) : (s.withPending q).button = s.button := rfl
@[simp] theorem withPending_idle (s : State) (q : List Instr) : (s.withPending q).idle = s.idle := rfl
@[simp] theorem withPending_faults (s : State) (q : List Instr) : (s.withPending q).faults = s.faults := rfl
@[simp] theorem withPending_wakes (s : State) (q : List Instr) : (s.withPending q).wakes = s.wakes := rfl
@[simp] theorem withPending_monitor (s : State) (q : List Instr) : (s.withPending q).monitor = s.monitor := rfl
@[simp] theorem withPending_retained (s : State) (q : List Instr) : (s.withPending q).retained = s.retained := rfl
@[simp] theorem withPending_mailbox (s : State) (q : List Instr) : (s.withPending q).mailbox = s.mailbox := rfl
@[simp] theorem withPending_completions (s : State) (q : List Instr) : (s.withPending q).completions = s.completions := rfl
@[simp] theorem withPending_causes (s : State) (q : List Instr) : (s.withPending q).causes = s.causes := rfl
@[simp] theorem withPending_masks (s : State) (q : List Instr) : (s.withPending q).masks = s.masks := rfl
@[simp] theorem withPending_frame (s : State) (q : List Instr) : (s.withPending q).frame = s.frame := rfl
@[simp] theorem withPending_pointer (s : State) (q : List Instr) : (s.withPending q).pointer = s.pointer := rfl
@[simp] theorem withPending_transfer (s : State) (q : List Instr) : (s.withPending q).transfer = s.transfer := rfl
@[simp] theorem withPending_lineChanges (s : State) (q : List Instr) : (s.withPending q).lineChanges = s.lineChanges := rfl
@[simp] theorem withPending_freeCount (s : State) (q : List Instr) : (s.withPending q).freeCount = s.freeCount := rfl
@[simp] theorem withPending_pending (s : State) (q : List Instr) : (s.withPending q).pending = q := rfl

end Sys2Proof.Machine
end

