-- ==== Sys2Proof/Laws/Ops.lean ====
section
/-! SUPPORT. What the shared operations can do, said once: reads after writes, the frame of the node operations, when an event, a byte or a command acts, the order of the ready queue. -/

namespace Sys2Proof.Machine

/-! ### Reads after writes -/

@[simp] theorem node_setNode_self (s : State) (n : NodeId) (l : NodeLive) : (s.setNode n l).node n = l := by
  simp [State.node]

theorem node_setNode_of_ne (s : State) {m n : NodeId} (l : NodeLive) (h : m ≠ n) : (s.setNode n l).node m = s.node m := by
  have hv : n.val ≠ m.val := fun e => h (Fin.ext e.symm)
  simp [State.node, hv]

@[simp] theorem wakeLive_setWake_self (s : State) (e : Fin 16) (w : WakeLive) : (s.setWake e w).wakeLive e = w := by
  simp [State.wakeLive]

theorem wakeLive_setWake_of_ne (s : State) {d e : Fin 16} (w : WakeLive) (h : d ≠ e) :
    (s.setWake e w).wakeLive d = s.wakeLive d := by
  have hv : e.val ≠ d.val := fun x => h (Fin.ext x.symm)
  simp [State.wakeLive, hv]

@[simp] theorem PerPort.get_set_self {α : Type} (x : PerPort α) (p : Port) (a : α) : (x.set p a).get p = a := by
  cases p <;> rfl

theorem PerPort.get_set_of_ne {α : Type} (x : PerPort α) {p q : Port} (a : α) (h : q ≠ p) : (x.set p a).get q = x.get q := by
  cases p <;> cases q <;> first | rfl | exact absurd rfl h

@[simp] theorem PerPort.set_get_self {α : Type} (x : PerPort α) (p : Port) : x.set p (x.get p) = x := by
  cases p <;> rfl

theorem bank_setBank (s : State) (i j : BankId) (b : Bank) : (s.setBank i b).bank j = if j = i then b else s.bank j := by
  cases i <;> cases j <;> rfl

/-! ### The frame of the node operations -/

/-- `t` differs from `s` at most in the nodes, the budget in use and the ready queue. -/
abbrev State.sameButNodes (s t : State) : Prop :=
  { t with nodes := s.nodes, budgetInUse := s.budgetInUse, ready := s.ready } = s

theorem State.sameButNodes.trans {s t u : State} (h : s.sameButNodes t) (k : t.sameButNodes u) : s.sameButNodes u := by
  cases s; cases t; cases u; simp_all

theorem release_sameButNodes (s : State) (n : NodeId) : s.sameButNodes (s.release n) := by
  unfold State.release; split <;> rfl

theorem leaveReady_sameButNodes (s : State) (n : NodeId) : s.sameButNodes (s.leaveReady n) := rfl

theorem setNode_sameButNodes (s : State) (n : NodeId) (l : NodeLive) : s.sameButNodes (s.setNode n l) := rfl

theorem place_sameButNodes (s : State) (n : NodeId) (st : NodeState) : s.sameButNodes (s.place n st) := by
  unfold State.place; split
  · rfl
  · dsimp only; split <;> rfl

theorem toOff_sameButNodes (s : State) (n : NodeId) : s.sameButNodes (s.toOff n) :=
  (release_sameButNodes s n).trans ((leaveReady_sameButNodes _ n).trans (setNode_sameButNodes _ n _))

theorem drop_sameButNodes (s : State) (n : NodeId) : s.sameButNodes (s.drop n) := by
  unfold State.drop; split
  · exact toOff_sameButNodes s n
  · exact (release_sameButNodes s n).trans (setNode_sameButNodes _ n _)

theorem fail_sameButNodes (s : State) (n : NodeId) : s.sameButNodes (s.fail n) :=
  (release_sameButNodes s n).trans ((leaveReady_sameButNodes _ n).trans (setNode_sameButNodes _ n _))

theorem takeDown_sameButNodes (s : State) (n : NodeId) : s.sameButNodes (s.takeDown n) := by
  unfold State.takeDown; split
  · exact drop_sameButNodes s n
  · rfl

theorem becomeOn_sameButNodes (s : State) (n : NodeId) : s.sameButNodes (s.becomeOn n) :=
  (release_sameButNodes s n).trans (setNode_sameButNodes _ n _)

theorem enterSettling_sameButNodes (s : State) (n : NodeId) : s.sameButNodes (s.enterSettling n) := by
  unfold State.enterSettling; dsimp only; split
  · exact (setNode_sameButNodes s n _).trans (becomeOn_sameButNodes _ n)
  · exact setNode_sameButNodes s n _

theorem nodeTurn_sameButNodes (s : State) (n : NodeId) : s.sameButNodes (s.nodeTurn n) := by
  unfold State.nodeTurn; split
  · rfl
  · unfold State.applyNodeMove; split
    · exact place_sameButNodes s n _
    · exact toOff_sameButNodes s n
    · exact drop_sameButNodes s n

theorem foldl_sameButNodes (f : State → NodeId → State) (hf : ∀ (s : State) n, s.sameButNodes (f s n)) (ns : List NodeId) (s : State) :
    s.sameButNodes (ns.foldl f s) := by
  induction ns generalizing s with
  | nil => rfl
  | cons n ns ih => exact (hf s n).trans (ih (f s n))

theorem shed_sameButNodes (s : State) (n : NodeId) : s.sameButNodes (s.shed n) :=
  (fail_sameButNodes s n).trans (foldl_sameButNodes _ takeDown_sameButNodes _ _)

theorem standstill_sameButNodes (k : Nat) (s : State) : s.sameButNodes (State.standstill k s) := by
  induction k generalizing s with
  | zero => rfl
  | succ k ih =>
    unfold State.standstill; split
    · rfl
    · exact (foldl_sameButNodes _ nodeTurn_sameButNodes _ s).trans (ih _)

theorem standstill_of_still (k : Nat) {s : State} (h : s.still = true) : State.standstill k s = s := by
  cases k <;> simp [State.standstill, h]

/-! ### When an event, a byte or a command acts -/

theorem event_of_running {s : State} (f : State → State) (h : s.power = .running) : s.event f = (f s).finish := by
  simp [State.event, h]

theorem event_of_not_running {s : State} (f : State → State) (h : s.power ≠ .running) : s.event f = s := by
  simp [State.event, h]

theorem eventIf_true (s : State) (f : State → State) : s.eventIf true f = s.event f := rfl

theorem eventIf_false (s : State) (f : State → State) : s.eventIf false f = s := rfl

theorem byteEvent_of_taken {s : State} {p : Port} {addr : Word} (f : State → State)
    (h : s.takesByte p addr = true) :
    s.byteEvent p addr f = (f (s.afterByte p addr)).finish := by
  simp [State.byteEvent, h]

theorem byteEvent_of_not_taken {s : State} {p : Port} {addr : Word} (f : State → State)
    (h : s.takesByte p addr = false) :
    s.byteEvent p addr f = s := by
  simp [State.byteEvent, h]

theorem readEvent_of_taken {s : State} {p : Port} {addr : Word} (f : State → State) (h : s.takesRead p addr = true) :
    s.readEvent p addr f = (f (s.afterRead p addr)).finish := by
  simp [State.readEvent, h]

theorem readEvent_of_not_taken {s : State} {p : Port} {addr : Word} (f : State → State) (h : s.takesRead p addr = false) :
    s.readEvent p addr f = s := by
  simp [State.readEvent, h]

@[simp] theorem timerDue_iff (t : Option Nat) : timerDue t = true ↔ t = some 0 := by simp [timerDue]

@[simp] theorem intervalDue_iff (t : Option Interval) (toward : Bool) : intervalDue t toward = true ↔ t = some ⟨toward, 0⟩ := by
  simp [intervalDue]

theorem takesByte_host_iff (s : State) (a : Word) :
    s.takesByte .host a = true ↔ s.hostLive = true ∧ s.frame = .write a := by
  simp [State.takesByte]

theorem takesByte_mgmt_iff (s : State) (a : Word) :
    s.takesByte .mgmt a = true ↔ s.power = .running ∧ s.transfer = true ∧ s.pointer = a := by
  simp [State.takesByte, and_assoc]

theorem readAddr_eq_some_iff (f : Frame) (a : Word) : f.readAddr = some a ↔ f = .turnaround a ∨ f = .read a := by
  cases f <;> simp [Frame.readAddr]

theorem readForbidden_host_iff (a : Word) : readForbidden .host a = true ↔
    (0x0400 ≤ a.toNat ∧ a.toNat ≤ 0x05FF) ∨ (0x06A0 ≤ a.toNat ∧ a.toNat ≤ 0x06EF) ∨ a.toNat = 0x0780 ∨
      (0x0790 ≤ a.toNat ∧ a.toNat ≤ 0x07FF) ∨ (0x0820 ≤ a.toNat ∧ a.toNat ≤ 0x082E) := by
  simp [readForbidden, ← BitVec.toNat_inj, or_assoc]

theorem nextForbidden_forbidden (a : Word) : readForbidden .host (nextForbidden a) = true := by
  rw [readForbidden_host_iff]; unfold nextForbidden; dsimp only
  split_ifs <;> first | omega | simp

theorem not_forbidden_before_next (a : Word) (k : Nat) (h : k < (nextForbidden a - a).toNat) :
    readForbidden .host (a + BitVec.ofNat 16 k) = false := by
  have ha := a.isLt
  have e : (a + BitVec.ofNat 16 k).toNat = (a.toNat + k) % 65536 := by simp [BitVec.toNat_add]
  rw [← Bool.not_eq_true, readForbidden_host_iff, e]
  unfold nextForbidden at h; dsimp only at h
  split_ifs at h <;> simp only [BitVec.toNat_sub, BitVec.reduceToNat, Nat.reducePow] at h <;> omega

/-- A read frame comes from `a` to `b` exactly when the Host Port may read every byte before `b`. -/
theorem readReaches_iff (a b : Word) :
    readReaches a b = true ↔ ∀ k < (b - a).toNat, readForbidden .host (a + BitVec.ofNat 16 k) = false := by
  rw [readReaches, decide_eq_true_iff]
  refine ⟨fun h k hk => not_forbidden_before_next a k (Nat.lt_of_lt_of_le hk h), fun h => ?_⟩
  by_contra hc
  have := h _ (Nat.lt_of_not_le hc)
  rw [BitVec.ofNat_toNat, BitVec.setWidth_eq, BitVec.add_comm, BitVec.sub_add_cancel, nextForbidden_forbidden] at this
  cases this

theorem takesRead_host_iff (s : State) (b : Word) :
    s.takesRead .host b = true ↔
      s.hostLive = true ∧ ∃ a, (s.frame = .turnaround a ∨ s.frame = .read a) ∧ readReaches a b = true := by
  simp [State.takesRead, Option.any_eq_true, readAddr_eq_some_iff]

theorem filterToward_iff (s : State) (n : NodeId) (level : Bool) :
    s.filterToward n level = true ↔ (s.node n).filter = some ⟨level, 0⟩ := by
  simp [State.filterToward]

theorem button_filterToward_iff (b : Button) (down : Bool) : b.filterToward down = true ↔ b.filter = some ⟨down, 0⟩ := by
  simp [Button.filterToward]

theorem watched_eq_some_iff (m : Monitor) (k : Nat) : m.watched = some k ↔ m.state = .armed k ∧ m.deadline = some 0 := by
  unfold Monitor.watched; split <;> simp_all

theorem wakeDue_iff (s : State) (e : Fin 16) :
    s.wakeDue e = true ↔ (s.wakeLive e).level ≠ none ∧ ∃ i, (s.wakeLive e).filter = some i ∧ i.left = 0 := by
  unfold State.wakeDue; cases (s.wakeLive e).filter <;> simp [Option.isSome_iff_ne_none]

theorem afterByte_eq_byteTaken (s : State) (p : Port) (addr : Word) : s.afterByte p addr = s.byteTaken p addr := by
  cases p <;> rfl

theorem commandByte_of_takesCommand {s : State} {p : Port} (code : Byte) (body : State → State) (h : s.takesCommand p) :
    s.commandByte p code body = (body (s.commanded p code)).finish := by
  obtain ⟨h1, h2⟩ := h
  unfold State.commandByte
  rw [byteEvent_of_taken _ h1]
  cases p <;> exact congrArg State.finish (if_neg h2)

theorem mgmtCommand_mgmt (s : State) (code : Byte) (body : State → State) :
    s.mgmtCommand .mgmt code body = s.commandByte .mgmt code body := rfl

theorem mgmtCommand_host (s : State) (code : Byte) (body : State → State) :
    s.mgmtCommand .host code body = s.commandByte .host code fun s => s.reply .host .cls := rfl

theorem replyDetail_eq_finished (s : State) (p : Port) (r : Result) (d : Detail) : s.replyDetail p r d = s.finished p r d := rfl

theorem reply_eq_finished (s : State) (p : Port) (r : Result) : s.reply p r = s.finished p r noDetail := rfl

/-! ### The ready queue -/

theorem mem_insertReady (e x : ReadyEntry) (q : List ReadyEntry) : x ∈ insertReady e q ↔ x = e ∨ x ∈ q := by
  induction q with
  | nil => simp [insertReady]
  | cons y ys ih =>
    unfold insertReady; split
    · simp only [List.mem_cons, ih]; tauto
    · simp only [List.mem_cons]

theorem insertReady_length (e : ReadyEntry) (q : List ReadyEntry) : (insertReady e q).length = q.length + 1 := by
  induction q with
  | nil => rfl
  | cons y ys ih => unfold insertReady; split <;> simp [ih]

/-! ### The logs -/

theorem logPost_length (m : Monitor) (code : Word) (now : Dword) (h : m.log.length ≤ 32) :
    (m.logPost code now).log.length ≤ 32 := by
  unfold Monitor.logPost; dsimp only; split <;> simp_all

theorem storeFault_length (s : State) (r : FaultRecord) (h : s.faults.log.length ≤ 16) :
    (s.storeFault r).faults.log.length ≤ 16 := by
  unfold State.storeFault; split
  · simp; omega
  · exact h

end Sys2Proof.Machine
end

