-- ==== Sys2Proof/Laws/Engine.lean ====
section
/-! SUPPORT. The frame of the engine's and the arbiter's shared operations: each leaves everything outside the joint reaction's reach as it was (State.outside). -/

namespace Sys2Proof.Machine

theorem outside_of_sameButNodes {s t : State} (h : s.sameButNodes t) : t.outside = s.outside := by
  cases s; cases t
  simp only [State.sameButNodes, State.mk.injEq] at h
  simp [State.outside, h]

theorem pushCompletion_outside (s : State) (p : Port) (tag : Option Byte) (e : Ending) :
    (s.pushCompletion p tag e).outside = s.outside := rfl

theorem watchCompletion_outside (s : State) (e : Ending) : (s.watchCompletion e).outside = s.outside := by
  unfold State.watchCompletion; split <;> rfl

theorem complete_outside (s : State) (r : Request) (e : Ending) : (s.complete r e).outside = s.outside := by
  unfold State.complete; split <;> first | rfl | exact watchCompletion_outside s e

theorem completeInFlight_outside (s : State) (e : Ending) : (s.completeInFlight e).outside = s.outside := by
  unfold State.completeInFlight; split
  · rfl
  · exact complete_outside s _ e

theorem foldl_outside {α : Type} (f : State → α → State) (hf : ∀ s a, (f s a).outside = s.outside) (xs : List α) (s : State) :
    (xs.foldl f s).outside = s.outside := by
  induction xs generalizing s with
  | nil => rfl
  | cons x xs ih => exact (ih (f s x)).trans (hf s x)

theorem flushQueue_outside (s : State) : s.flushQueue.outside = s.outside :=
  foldl_outside _ (fun t r => complete_outside t r .abortedByFault) s.queue s

theorem restartIdle_outside (s : State) : s.restartIdle.outside = s.outside := by
  unfold State.restartIdle; split <;> rfl

theorem startIdle_outside (s : State) : s.startIdle.outside = s.outside := by
  unfold State.startIdle; split <;> rfl

theorem reportStart_outside (s : State) (src : Option Source) (rc : Bool) : (s.reportStart src rc).outside = s.outside := by
  unfold State.reportStart; dsimp only; split <;> rfl

theorem reportRun_outside (s : State) : s.reportRun.outside = s.outside := by
  unfold State.reportRun; split <;> rfl

theorem startTransition_outside (s : State) (t : Level) (v : Option Level) (rc tr : Bool) (r : Option Request) :
    (s.startTransition t v rc tr r).outside = s.outside := rfl

theorem take_outside (s : State) (r : Request) : (s.take r).outside = s.outside := by
  unfold State.take; split
  · exact complete_outside s r _
  · exact reportStart_outside _ _ _

theorem startRepair_outside (s : State) : s.startRepair.outside = s.outside := rfl

theorem startTrip_outside (s : State) (t : Level) : (s.startTrip t).outside = s.outside :=
  (reportStart_outside _ _ _).trans ((flushQueue_outside _).trans (completeInFlight_outside s _))

theorem supersedeQueued_outside (s : State) (src : Source) : (s.supersedeQueued src).outside = s.outside := by
  unfold State.supersedeQueued; split
  · exact complete_outside s _ _
  · rfl

theorem enqueueNormal_outside (s : State) (r : Request) : (s.enqueueNormal r).outside = s.outside := by
  unfold State.enqueueNormal; split
  · rfl
  · split
    · rfl
    · exact complete_outside s _ _

theorem takeForced_outside (s : State) (r : Request) : (s.takeForced r).outside = s.outside :=
  (take_outside _ r).trans ((supersedeQueued_outside _ _).trans (completeInFlight_outside s _))

theorem enqueueForced_outside (s : State) (r : Request) : (s.enqueueForced r).outside = s.outside :=
  supersedeQueued_outside s _

theorem arrive_outside (s : State) (r : Request) : (s.arrive r).outside = s.outside := by
  unfold State.arrive; split
  · rfl
  · dsimp only; split
    · exact (enqueueNormal_outside _ r).trans (restartIdle_outside s)
    · split
      · exact (enqueueForced_outside _ r).trans (restartIdle_outside s)
      · exact (takeForced_outside _ r).trans (restartIdle_outside s)

theorem grant_sameButNodes (s : State) (n : NodeId) : s.sameButNodes (s.grant n) := by
  unfold State.grant; dsimp only; split
  · exact State.sameButNodes.trans (by rfl) (enterSettling_sameButNodes _ n)
  · rfl

theorem clearRetries_sameButNodes (s : State) : s.sameButNodes s.clearRetries := rfl

theorem clearFailures_sameButNodes (s : State) : s.sameButNodes s.clearFailures := rfl

theorem clearFailuresAtDeep_sameButNodes (s : State) : s.sameButNodes s.clearFailuresAtDeep := by
  unfold State.clearFailuresAtDeep; split <;> rfl

theorem retainLevel_outside (s : State) (L : Level) : (s.retainLevel L).outside = s.outside := rfl

theorem raise_settled_outside (s : State) : (s.raiseBoth .settled).outside = s.outside := by
  have h : ∀ w x : Word, (w ||| x) &&& ~~~x = w &&& ~~~x := by
    intro w x
    ext i hi
    simp only [BitVec.getElem_and, BitVec.getElem_or, BitVec.getElem_not]
    generalize w[i] = a, x[i] = b
    revert a b
    decide
  cases s
  simp [State.raiseBoth, State.raise, State.outside, PerPort.set, PerPort.get, h]

theorem startHold_outside (s : State) : s.startHold.outside = s.outside := rfl

theorem viaSettle_outside (s : State) (via : Level) : (s.viaSettle via).outside = s.outside := by
  have h : ∀ t : State, (t.clearRetries.clearFailuresAtDeep).outside = t.outside := fun t =>
    outside_of_sameButNodes ((clearRetries_sameButNodes t).trans (clearFailuresAtDeep_sameButNodes _))
  unfold State.viaSettle; dsimp only
  split <;> split <;> exact h _

theorem settle_outside (s : State) (target : Level) : (s.settle target).outside = s.outside := by
  have hn : ∀ t : State, (t.clearFailuresAtDeep.clearRetries).outside = t.outside := fun t =>
    outside_of_sameButNodes ((clearFailuresAtDeep_sameButNodes t).trans (clearRetries_sameButNodes _))
  have hs : ∀ t : State,
      (((((t.clearFailuresAtDeep.clearRetries).retainLevel target).raiseBoth .settled).completeInFlight .done).startIdle).outside =
        t.outside := fun t =>
    (startIdle_outside _).trans ((completeInFlight_outside _ _).trans ((raise_settled_outside _).trans
      ((retainLevel_outside _ _).trans (hn t))))
  unfold State.settle; dsimp only
  split
  · exact (reportRun_outside _).trans (hs _)
  · exact hs _

end Sys2Proof.Machine
end

