-- ==== Sys2Proof/Laws/Sets.lean ====
section
/-! SUPPORT. What the shared operations over a configuration set can do: the closure of a set of nodes under their dependents (R6, R63), and the failure that validation reports (R14 to R17, R122, R138, R153, R155). -/
namespace Sys2Proof

/-! ### Dependents -/

theorem mem_allNodes (n : NodeId) : n ∈ allNodes := List.mem_finRange n

theorem mem_dependents (c : ConfigSet) (n m : NodeId) : m ∈ c.dependents n ↔ c.lists n m := by
  simp [ConfigSet.dependents, ConfigSet.lists, mem_allNodes]

theorem mem_newDependents (c : ConfigSet) (found : List NodeId) (m : NodeId) :
    m ∈ c.newDependents found ↔ m ∉ found ∧ ∃ q ∈ found, c.lists q m := by
  simp only [ConfigSet.newDependents, List.mem_filter, mem_allNodes, true_and, Bool.and_eq_true, Bool.not_eq_true',
    List.any_eq_true, List.contains_iff_mem, ConfigSet.lists, ← Bool.not_eq_true]
  constructor
  · rintro ⟨⟨u, h⟩, q, p, f⟩; exact ⟨h, q, f, u, p⟩
  · rintro ⟨h, q, f, u, p⟩; exact ⟨⟨u, h⟩, q, p, f⟩

theorem closeDependents_sound (c : ConfigSet) (P : NodeId → Prop) (hP : ∀ q m, P q → c.lists q m → P m) (k : Nat)
    (found : List NodeId) (h : ∀ x ∈ found, P x) : ∀ x ∈ c.closeDependents k found, P x := by
  induction k generalizing found with
  | zero => exact h
  | succ k ih =>
    unfold ConfigSet.closeDependents; split
    · exact h
    · refine ih _ fun x hx => ?_
      rcases List.mem_append.1 hx with hx | hx
      · exact h x hx
      · obtain ⟨-, q, hq, hl⟩ := (mem_newDependents c found x).1 hx
        exact hP q x (h q hq) hl

theorem subset_closeDependents (c : ConfigSet) (k : Nat) (found : List NodeId) : found ⊆ c.closeDependents k found := by
  induction k generalizing found with
  | zero => exact List.Subset.refl _
  | succ k ih =>
    unfold ConfigSet.closeDependents; split
    · exact List.Subset.refl _
    · exact fun x hx => ih _ (List.mem_append_left _ hx)

/-- With as many rounds as nodes are missing, the closure is closed under listing. -/
theorem closeDependents_closed (c : ConfigSet) (k : Nat) (found : List NodeId)
    (h : (allNodes.filter fun x => !found.contains x).length ≤ k) {q m : NodeId} (hq : q ∈ c.closeDependents k found)
    (hl : c.lists q m) : m ∈ c.closeDependents k found := by
  induction k generalizing found with
  | zero =>
    have h0 := List.length_eq_zero_iff.1 (Nat.le_zero.1 h)
    have hm : m ∈ found := by simpa using List.filter_eq_nil_iff.1 h0 m (mem_allNodes m)
    exact hm
  | succ k ih =>
    unfold ConfigSet.closeDependents at hq ⊢
    split at hq
    · rename_i he
      rw [if_pos he]
      by_contra hm
      have := (mem_newDependents c found m).2 ⟨hm, q, hq, hl⟩
      rw [List.isEmpty_iff.1 he] at this
      cases this
    · rename_i he
      rw [if_neg he]
      refine ih _ ?_ hq
      obtain ⟨x, hx⟩ := List.exists_mem_of_ne_nil _ (fun e => he (List.isEmpty_iff.2 e))
      have hout := ((mem_newDependents c found x).1 hx).1
      have hs : (allNodes.filter fun y => !(found ++ c.newDependents found).contains y) =
          (allNodes.filter fun y => !found.contains y).filter fun y => !(c.newDependents found).contains y := by
        rw [List.filter_filter]; congr 1; funext y; simp [Bool.and_comm]
      rw [hs]
      exact Nat.le_of_lt_succ (Nat.lt_of_lt_of_le (List.length_filter_lt_length_iff_exists.2
        ⟨x, by simpa [mem_allNodes] using hout, by simpa using hx⟩) h)

/-- The closure under listing (R6). -/
theorem mem_closeDependents (c : ConfigSet) (start : List NodeId) (m : NodeId) :
    m ∈ c.closeDependents 32 start ↔ ∃ g ∈ start, m = g ∨ Relation.TransGen c.lists g m := by
  constructor
  · refine closeDependents_sound c (fun m => ∃ g ∈ start, m = g ∨ Relation.TransGen c.lists g m) ?_ 32 start ?_ m
    · rintro q m ⟨g, hg, rfl | h⟩ hl
      · exact ⟨q, hg, .inr (.single hl)⟩
      · exact ⟨g, hg, .inr (h.tail hl)⟩
    · exact fun x hx => ⟨x, hx, .inl rfl⟩
  · have close := fun q m => @closeDependents_closed c 32 start
      (Nat.le_trans (List.length_filter_le _ _) (by simp [allNodes])) q m
    rintro ⟨g, hg, rfl | h⟩
    · exact subset_closeDependents c 32 start hg
    · induction h with
      | single hl => exact close _ _ (subset_closeDependents c 32 start hg) hl
      | tail _ hl ih => exact close _ _ ih hl

theorem mem_transitiveDependents (c : ConfigSet) (n m : NodeId) :
    m ∈ c.transitiveDependents n ↔ Relation.TransGen c.lists n m := by
  rw [ConfigSet.transitiveDependents, mem_closeDependents]
  constructor
  · rintro ⟨g, hg, rfl | h⟩
    · exact .single ((mem_dependents c n m).1 hg)
    · exact .head ((mem_dependents c n g).1 hg) h
  · intro h
    obtain ⟨g, hl, h⟩ := Relation.TransGen.head'_iff.1 h
    refine ⟨g, (mem_dependents c n g).2 hl, ?_⟩
    exact (Relation.reflTransGen_iff_eq_or_transGen.1 h)

theorem mem_exclusionSet (c : ConfigSet) (m : NodeId) : m ∈ c.exclusionSet ↔
    ∃ g : NodeId, 24 ≤ g.val ∧ (c.node g).level = 3 ∧ (m = g ∨ Relation.TransGen c.lists g m) := by
  have h : ∀ g : NodeId, (c.node g).levelOf = some .run ↔ (c.node g).level = 3 := fun g => by
    unfold NodeRecord.levelOf levelOfByte; split_ifs <;> simp_all
  simp [ConfigSet.exclusionSet, mem_closeDependents, mem_allNodes, isGate, h, and_assoc]

/-! ### Validation -/

/-- The answer is the failing check that comes first, and none where none fails. -/
def FirstOf (P : Failure → Prop) (x : Option Failure) : Prop :=
  (∀ f, x = some f → P f ∧ ∀ g, P g → f.turn ≤ g.turn) ∧ (x = none → ∀ g, ¬P g)

theorem FirstOf.congr {P Q : Failure → Prop} {x : Option Failure} (h : FirstOf P x) (e : ∀ f, P f ↔ Q f) : FirstOf Q x := by
  obtain rfl : P = Q := funext fun f => propext (e f)
  exact h

theorem firstOf_none : FirstOf (fun _ => False) none := ⟨nofun, fun _ _ => id⟩

theorem FirstOf.or {P Q : Failure → Prop} {x y : Option Failure} (hx : FirstOf P x) (hy : FirstOf Q y)
    (h : ∀ f g, P f → Q g → f.turn ≤ g.turn) : FirstOf (fun f => P f ∨ Q f) (x.or y) := by
  cases x with
  | none =>
    refine ⟨fun f e => ⟨.inr (hy.1 f e).1, fun g k => k.elim (fun k => absurd k (hx.2 rfl g)) ((hy.1 f e).2 g)⟩, fun e g k => ?_⟩
    exact k.elim (hx.2 rfl g) (hy.2 e g)
  | some a =>
    refine ⟨fun f e => ?_, nofun⟩
    obtain rfl : a = f := Option.some.inj e
    exact ⟨.inl (hx.1 a rfl).1, fun g k => k.elim ((hx.1 a rfl).2 g) (h a g (hx.1 a rfl).1)⟩

theorem firstOf_ite {Q : Failure → Prop} {b : Prop} [Decidable b] {f₀ : Failure} {y : Option Failure} (hy : FirstOf Q y)
    (h : ∀ g, Q g → f₀.turn ≤ g.turn) : FirstOf (fun f => (b ∧ f = f₀) ∨ Q f) (if b then some f₀ else y) := by
  split
  · rename_i hb
    refine ⟨fun f e => ?_, nofun⟩
    obtain rfl : f₀ = f := Option.some.inj e
    exact ⟨.inl ⟨hb, rfl⟩, fun g k => k.elim (fun k => k.2 ▸ le_refl _) (h g)⟩
  · rename_i hb
    exact hy.congr fun f => by simp [hb]

theorem firstOf_findSome {α : Type} (l : List α) (h : α → Option Failure) (P : α → Failure → Prop)
    (hP : ∀ a ∈ l, FirstOf (P a) (h a)) (ho : l.Pairwise fun a b => ∀ f g, P a f → P b g → f.turn ≤ g.turn) :
    FirstOf (fun f => ∃ a ∈ l, P a f) (l.findSome? h) := by
  induction l with
  | nil => exact firstOf_none.congr fun f => by simp
  | cons a l ih =>
    rw [List.pairwise_cons] at ho
    have : (a :: l).findSome? h = (h a).or (l.findSome? h) := by
      rw [List.findSome?_cons]; cases h a <;> rfl
    rw [this]
    refine ((hP a (List.mem_cons_self)).or (ih (fun b hb => hP b (List.mem_cons_of_mem _ hb)) ho.2) ?_).congr
      fun f => by simp
    rintro f g hf ⟨b, hb, hg⟩
    exact ho.1 b hb f g hf hg

theorem findSome_of_find_map {α β : Type} (l : List α) (p : α → Bool) (mk : α → β) :
    (l.find? p).map mk = l.findSome? fun a => if p a then some (mk a) else none := by
  induction l with
  | nil => rfl
  | cons a l ih =>
    by_cases h : p a = true
    · simp [h]
    · simp only [Bool.not_eq_true] at h; simp [h, ih]

theorem pairwise_allNodes : allNodes.Pairwise fun a b => a.val < b.val := List.pairwise_lt_finRange 32

theorem firstOf_if {b : Prop} [Decidable b] (f₀ : Failure) : FirstOf (fun f => b ∧ f = f₀) (if b then some f₀ else none) :=
  (firstOf_ite firstOf_none fun _ => False.elim).congr fun f => by simp

theorem fieldInRange_iff (p : Policy) (i : Nat) (h : i < 15) : p.fieldInRange i = true ↔ ¬p.fieldFails i := by
  interval_cases i <;> simp [Policy.fieldInRange, Policy.fieldFails, Policy.ranges, within]
  rw [or_iff_not_imp_left, Nat.not_le]

theorem firstOf_policy (c : ConfigSet) :
    FirstOf (fun f => ∃ i ∈ List.range 15, c.policy.fieldFails i ∧ f = ⟨.policy, i, .range⟩) c.policyFailure := by
  unfold ConfigSet.policyFailure
  rw [findSome_of_find_map]
  refine (firstOf_findSome (List.range 15) _ (fun i f => c.policy.fieldFails i ∧ f = ⟨.policy, i, .range⟩) ?_ ?_)
  · intro i hi
    have h := fieldInRange_iff c.policy i (List.mem_range.1 hi)
    exact (firstOf_if _).congr fun f => by simp [← Bool.not_eq_true, h]
  · refine List.pairwise_lt_range.imp ?_
    rintro i j h f g ⟨-, rfl⟩ ⟨-, rfl⟩
    exact Nat.le_of_lt h

theorem inRange_iff (r : NodeRecord) (n : NodeId) : r.inRange n = true ↔ ¬r.rangeFails n := by
  unfold NodeRecord.inRange NodeRecord.rangeFails
  simp only [within, isGate, NodeRecord.timed, Bool.and_eq_true, decide_eq_true_eq, ← BitVec.toNat_inj]
  by_cases h : 24 ≤ n.val <;> cases r.flags.getLsbD 0 <;> simp [h] <;> omega

theorem mem_filled (r : NodeRecord) (b : Byte) : b ∈ r.filled ↔ b ≠ 0xFF ∧ ∃ i : Fin 4, r.slots[i] = b := by
  simp only [NodeRecord.filled, List.mem_filter, Vector.mem_toList_iff, Vector.mem_iff_getElem, bne_iff_ne]
  constructor
  · rintro ⟨⟨i, h, e⟩, hx⟩; exact ⟨hx, ⟨i, h⟩, e⟩
  · rintro ⟨hx, i, e⟩; exact ⟨⟨i.val, i.isLt, e⟩, hx⟩

theorem filled_nodup (r : NodeRecord) :
    ¬r.filled.Nodup ↔ ∃ i j : Fin 4, i ≠ j ∧ r.slots[i] ≠ 0xFF ∧ r.slots[i] = r.slots[j] := by
  unfold List.Nodup NodeRecord.filled
  rw [List.pairwise_filter, List.pairwise_iff_getElem]
  simp only [bne_iff_ne, Vector.length_toList, Vector.getElem_toList]
  push Not
  constructor
  · rintro ⟨i, j, hi, hj, h, a, -, e⟩; exact ⟨⟨i, hi⟩, ⟨j, hj⟩, by simp; omega, a, e⟩
  · rintro ⟨i, j, h, a, e⟩
    have h : i.val ≠ j.val := fun k => h (Fin.ext k)
    rcases Nat.lt_or_gt_of_ne h with h | h
    · exact ⟨i.val, j.val, i.isLt, j.isLt, h, a, fun k => a (e.trans k), e⟩
    · exact ⟨j.val, i.val, j.isLt, i.isLt, h, fun k => a (e.trans k), a, e.symm⟩

theorem badPrereq_iff (c : ConfigSet) (n : NodeId) : c.badPrereq n = true ↔ c.prereqFails n := by
  unfold ConfigSet.badPrereq ConfigSet.prereqFails
  simp only [Bool.or_eq_true, Bool.not_eq_true', decide_eq_false_iff_not, filled_nodup, Bool.and_eq_true,
    List.any_eq_true, decide_eq_true_eq, beq_iff_eq, or_assoc, mem_filled]
  refine or_congr ⟨?_, ?_⟩ Iff.rfl
  · rintro ⟨x, ⟨hx, i, rfl⟩, h⟩; exact ⟨i, hx, h⟩
  · rintro ⟨i, hx, h⟩; exact ⟨_, ⟨hx, i, rfl⟩, h⟩

theorem firstOf_nodeRange (c : ConfigSet) (n : NodeId) :
    FirstOf (fun f => ((c.node n).rangeFails n ∧ f = ⟨.node, n.val, .range⟩) ∨
      ((24 ≤ n.val ∧ (c.node n).flags.getLsbD 0 = false) ∧ f = ⟨.node, n.val, .gateMode⟩)) (c.nodeRangeFailure n) := by
  unfold ConfigSet.nodeRangeFailure
  refine (firstOf_ite (firstOf_if _) ?_).congr fun f => ?_
  · rintro g ⟨-, rfl⟩; simp [Failure.turn]
  · simp [← Bool.not_eq_true, inRange_iff, isGate, NodeRecord.timed, and_assoc]

theorem levelOrderFails_iff (c : ConfigSet) (n : NodeId) :
    c.levelOrderFails n = true ↔ ∃ q, c.lists q n ∧ (c.node n).level.toNat < (c.node q).level.toNat := by
  simp [ConfigSet.levelOrderFails, ConfigSet.lists, and_assoc]

theorem firstOf_nodeOrder (c : ConfigSet) (n : NodeId) :
    FirstOf (fun f => (c.prereqFails n ∧ f = ⟨.node, n.val, .badPrereq⟩) ∨
      ((∃ q, c.lists q n ∧ (c.node n).level.toNat < (c.node q).level.toNat) ∧ f = ⟨.node, n.val, .levelOrder⟩) ∨
      (((c.node n).used = true ∧ c.policy.budget.toNat < (c.node n).weight.toNat) ∧ f = ⟨.node, n.val, .weight⟩))
      (c.nodeOrderFailure n) := by
  unfold ConfigSet.nodeOrderFailure
  refine (firstOf_ite (firstOf_ite (firstOf_if _) ?_) ?_).congr fun f => ?_
  · rintro g ⟨-, rfl⟩; simp [Failure.turn]
  · rintro g (⟨-, rfl⟩ | ⟨-, rfl⟩) <;> simp [Failure.turn]
  · simp only [badPrereq_iff, levelOrderFails_iff, ConfigSet.weightFails, Bool.and_eq_true, decide_eq_true_eq]

theorem onCycle_iff (c : ConfigSet) (n : NodeId) : c.onCycle n = true ↔ Relation.TransGen c.lists n n := by
  rw [ConfigSet.onCycle, List.contains_iff_mem, mem_transitiveDependents]

theorem firstOf_nodesFailure (c : ConfigSet) :
    FirstOf (fun f => f.part = .node ∧ c.fails f) c.nodesFailure := by
  have h1 := firstOf_findSome allNodes c.nodeRangeFailure _ (fun n _ => firstOf_nodeRange c n)
    (pairwise_allNodes.imp fun h f g => by
      rintro (⟨-, rfl⟩ | ⟨-, rfl⟩) (⟨-, rfl⟩ | ⟨-, rfl⟩) <;> simp [Failure.turn] <;> omega)
  have h2 := firstOf_findSome allNodes c.nodeOrderFailure _ (fun n _ => firstOf_nodeOrder c n)
    (pairwise_allNodes.imp fun h f g => by
      rintro (⟨-, rfl⟩ | ⟨-, rfl⟩ | ⟨-, rfl⟩) (⟨-, rfl⟩ | ⟨-, rfl⟩ | ⟨-, rfl⟩) <;> simp [Failure.turn] <;> omega)
  have h3 := firstOf_findSome allNodes (fun n => if c.onCycle n then some (⟨.node, n.val, .cycle⟩ : Failure) else none) _
    (fun n _ => firstOf_if _) (pairwise_allNodes.imp fun h f g => by
      rintro ⟨-, rfl⟩ ⟨-, rfl⟩; simp [Failure.turn]; omega)
  unfold ConfigSet.nodesFailure
  rw [findSome_of_find_map]
  refine ((h1.or h2 ?_).or h3 ?_).congr fun f => ?_
  · rintro f g ⟨n, -, ⟨-, rfl⟩ | ⟨-, rfl⟩⟩ ⟨m, -, ⟨-, rfl⟩ | ⟨-, rfl⟩ | ⟨-, rfl⟩⟩ <;> simp [Failure.turn] <;> omega
  · rintro f g (⟨n, -, ⟨-, rfl⟩ | ⟨-, rfl⟩⟩ | ⟨n, -, ⟨-, rfl⟩ | ⟨-, rfl⟩ | ⟨-, rfl⟩⟩) ⟨m, -, -, rfl⟩ <;>
      simp [Failure.turn] <;> omega
  · obtain ⟨part, index, reason⟩ := f
    cases part <;> cases reason <;>
      simp [ConfigSet.fails, mem_allNodes, onCycle_iff, and_assoc, and_comm, and_left_comm, eq_comm (a := index)]

theorem firstOf_hostNode (c : ConfigSet) :
    FirstOf (fun f => (∃ n : NodeId, c.policy.hostNode.toNat = n.val ∧ (c.node n).used = false) ∧ f = ⟨.policy, 10, .hostNode⟩)
      c.hostNodeFailure := by
  unfold ConfigSet.hostNodeFailure Policy.hostNodeOf nodeOfByte
  by_cases h : c.policy.hostNode.toNat < 32
  · have e : ∀ n : NodeId, c.policy.hostNode.toNat = n.val ↔ n = ⟨c.policy.hostNode.toNat, h⟩ := fun n => by
      rw [Fin.ext_iff, eq_comm]
    simp only [h, dite_true, e, exists_eq_left]
    have := firstOf_if (b := (c.node ⟨c.policy.hostNode.toNat, h⟩).used = false) ⟨.policy, 10, .hostNode⟩
    cases hu : (c.node ⟨c.policy.hostNode.toNat, h⟩).used <;> simpa [hu] using this
  · simp only [h, dite_false]
    refine firstOf_none.congr fun f => ?_
    simp only [false_iff]
    rintro ⟨⟨n, e, -⟩, -⟩
    omega

theorem wakeInRange_iff (e : WakeEntry) : e.inRange = true ↔ ¬e.rangeFails := by
  simp only [WakeEntry.inRange, WakeEntry.rangeFails, within, Bool.and_eq_true, decide_eq_true_eq]
  omega

theorem targetFails_iff (e : WakeEntry) :
    e.targetFails = true ↔ ∃ T L, e.targetOf = some T ∧ e.armedAt L = true ∧ T.rank ≤ L.rank := by
  have h : ∀ L : Level, L ∈ [Level.deep, .standby, .park, .run] := by intro L; cases L <;> simp
  unfold WakeEntry.targetFails
  cases ht : e.targetOf with
  | none => simp
  | some T => simp only [List.any_eq_true, h, true_and, Bool.and_eq_true, decide_eq_true_eq, Option.some.injEq]; simp

theorem firstOf_wake (c : ConfigSet) :
    FirstOf (fun f => f.part = .wake ∧ c.fails f) (allEntries.findSome? c.wakeFailure) := by
  have h := firstOf_findSome allEntries c.wakeFailure
    (fun e f => (c.wake[e].rangeFails ∧ f = ⟨.wake, e.val, .range⟩) ∨
      ((∃ T L, c.wake[e].targetOf = some T ∧ c.wake[e].armedAt L = true ∧ T.rank ≤ L.rank) ∧ f = ⟨.wake, e.val, .wakeTarget⟩))
    (fun e _ => by
      unfold ConfigSet.wakeFailure
      refine (firstOf_ite (firstOf_if _) ?_).congr fun f => ?_
      · rintro g ⟨-, rfl⟩; simp [Failure.turn]
      · simp only [← targetFails_iff, Bool.not_eq_true', ← Bool.not_eq_true, wakeInRange_iff, not_not])
    ((List.pairwise_lt_finRange 16).imp fun {a b} h f g => by
      have h : a.val < b.val := h
      rintro (⟨-, rfl⟩ | ⟨-, rfl⟩) (⟨-, rfl⟩ | ⟨-, rfl⟩) <;> simp [Failure.turn] <;> omega)
  refine h.congr fun f => ?_
  have ha : ∀ e : Fin 16, e ∈ allEntries := List.mem_finRange
  obtain ⟨part, index, reason⟩ := f
  cases part <;> cases reason <;>
    simp [ConfigSet.fails, ha, and_comm, and_left_comm, eq_comm (a := index)]

theorem stageInRange_iff (g : Stage) :
    g.inRange = true ↔ ¬(g.hi.toNat < g.lo.toNat ∨ g.deadline = 0 ∨ 3 < g.action.toNat) := by
  have := g.deadline.isLt
  simp only [Stage.inRange, within, Bool.and_eq_true, decide_eq_true_eq, ← BitVec.toNat_inj, BitVec.reduceToNat]
  omega

theorem firstOf_stageRange (l : List Stage) :
    FirstOf (fun f => ∃ k g, l[k]? = some g ∧ (g.hi.toNat < g.lo.toNat ∨ g.deadline = 0 ∨ 3 < g.action.toNat) ∧
      f = ⟨.plan, k, .range⟩) ((l.findIdx? fun g => !g.inRange).map fun k => ⟨.plan, k, .range⟩) := by
  have hb : ∀ g : Stage, (!g.inRange) = true ↔ g.hi.toNat < g.lo.toNat ∨ g.deadline = 0 ∨ 3 < g.action.toNat := fun g => by
    rw [Bool.not_eq_true', ← Bool.not_eq_true, stageInRange_iff, not_not]
  cases h : l.findIdx? fun g => !g.inRange with
  | none =>
    refine ⟨nofun, fun _ f => ?_⟩
    rintro ⟨k, g, e, hg, -⟩
    exact absurd ((hb g).2 hg) (by simp [List.findIdx?_eq_none_iff.1 h g (List.mem_of_getElem? e)])
  | some k =>
    obtain ⟨hk, hp, hlt⟩ := List.findIdx?_eq_some_iff_getElem.1 h
    refine ⟨fun f e => ?_, nofun⟩
    obtain rfl : (⟨.plan, k, .range⟩ : Failure) = f := Option.some.inj e
    refine ⟨⟨k, _, List.getElem?_eq_getElem hk, (hb _).1 hp, rfl⟩, ?_⟩
    rintro _ ⟨j, g, e, hg, rfl⟩
    refine Nat.add_le_add_left (Nat.le_of_not_lt fun hj => hlt j hj ?_) 6000
    obtain ⟨_, rfl⟩ := List.getElem?_eq_some_iff.1 e
    exact (hb _).2 hg

theorem overlapsBefore_iff (l : List Stage) (k : Nat) :
    (match l[k]? with
      | some g => (l.take k).any g.overlaps
      | none => false) = true ↔
    ∃ j g h, j < k ∧ l[k]? = some g ∧ l[j]? = some h ∧ g.lo.toNat ≤ h.hi.toNat ∧ h.lo.toNat ≤ g.hi.toNat := by
  cases hk : l[k]? with
  | none => simp
  | some g =>
    simp only [List.any_eq_true, Stage.overlaps, Bool.and_eq_true, decide_eq_true_eq, Option.some.injEq]
    constructor
    · rintro ⟨h, hm, ho⟩
      obtain ⟨j, hj⟩ := List.getElem?_of_mem hm
      rw [List.getElem?_take] at hj
      split at hj
      · exact ⟨j, g, h, ‹_›, rfl, hj, ho⟩
      · cases hj
    · rintro ⟨j, g', h, hlt, rfl, hj, ho⟩
      refine ⟨h, List.mem_of_getElem? (i := j) ?_, ho⟩
      rw [List.getElem?_take, if_pos hlt, hj]

theorem firstOf_plan (c : ConfigSet) : FirstOf (fun f => f.part = .plan ∧ c.fails f) c.planFailure := by
  unfold ConfigSet.planFailure; dsimp only
  have h1 := firstOf_stageRange c.plan.active
  have h2 := firstOf_findSome (List.range c.plan.active.length) (fun k => if (match c.plan.active[k]? with
      | some g => (c.plan.active.take k).any g.overlaps
      | none => false) = true then some (⟨.plan, k, .planOverlap⟩ : Failure) else none) _ (fun k _ => firstOf_if _)
    (List.pairwise_lt_range.imp fun h f g => by
      rintro ⟨-, rfl⟩ ⟨-, rfl⟩; simp [Failure.turn]; omega)
  have hlen : c.plan.active.length ≤ 16 := by simp [Plan.active]
  rw [findSome_of_find_map]
  split
  · rename_i h
    refine ⟨fun f e => ?_, nofun⟩
    obtain rfl : (⟨.plan, 0, .range⟩ : Failure) = f := Option.some.inj e
    refine ⟨⟨rfl, .inl ⟨rfl, h⟩⟩, ?_⟩
    rintro ⟨part, index, reason⟩ ⟨rfl, hg⟩
    cases reason <;> first | exact absurd hg id | (simp [Failure.turn]; done) | (simp [Failure.turn]; omega)
  · rename_i h
    refine (h1.or h2 ?_).congr fun f => ?_
    · rintro f g ⟨k, x, e, -, rfl⟩ ⟨j, -, -, rfl⟩
      have := (List.getElem?_eq_some_iff.1 e).1
      simp [Failure.turn]; omega
    · obtain ⟨part, index, reason⟩ := f
      cases part <;> cases reason <;> simp [ConfigSet.fails, h, overlapsBefore_iff]
      exact fun j _ g hg _ _ _ _ => (List.getElem?_eq_some_iff.1 hg).1

theorem fieldFails_lt (p : Policy) (i : Nat) (h : p.fieldFails i) : i < 15 := by
  obtain ⟨v, lo, hi, e, -⟩ := h
  exact (List.getElem?_eq_some_iff.1 e).1

/-- The failures of one part lie in one stretch of the order. -/
theorem turn_bounds (c : ConfigSet) (f : Failure) (h : c.fails f) :
    match f.part with
    | .policy => (f.turn < 15 ∧ f.reason = .range) ∨ (f.turn = 4000 ∧ f.reason = .hostNode)
    | .node => 1000 ≤ f.turn ∧ f.turn < 4000
    | .wake => 5000 ≤ f.turn ∧ f.turn < 6000
    | .plan => 6000 ≤ f.turn := by
  obtain ⟨part, index, reason⟩ := f
  cases part <;> cases reason <;> first
    | exact absurd h id
    | exact .inl ⟨fieldFails_lt _ _ h, rfl⟩
    | exact .inr ⟨rfl, rfl⟩
    | (obtain ⟨⟨n, _⟩, rfl, -⟩ := h; simp [Failure.turn]; omega)
    | (obtain ⟨⟨n, _⟩, q, rfl, -⟩ := h; simp [Failure.turn]; omega)
    | (obtain ⟨⟨n, _⟩, q, L, rfl, -⟩ := h; simp [Failure.turn]; omega)
    | (simp [Failure.turn]; done)
    | (simp [Failure.turn]; omega)

/-- Validation answers the failing check that comes first (R155). -/
theorem firstOf_failure (c : ConfigSet) : FirstOf c.fails c.failure := by
  have bounds := fun f (h : c.fails f) => turn_bounds c f h
  have inPolicy : ∀ f : Failure, (∃ i ∈ List.range 15, c.policy.fieldFails i ∧ f = ⟨.policy, i, .range⟩) → f.turn < 15 := by
    rintro f ⟨i, hi, -, rfl⟩; exact List.mem_range.1 hi
  have inNodes : ∀ f : Failure, f.part = .node ∧ c.fails f → 1000 ≤ f.turn ∧ f.turn < 4000 := fun f ⟨hp, hf⟩ => by
    simpa [hp] using bounds f hf
  have inWake : ∀ f : Failure, f.part = .wake ∧ c.fails f → 5000 ≤ f.turn ∧ f.turn < 6000 := fun f ⟨hp, hf⟩ => by
    simpa [hp] using bounds f hf
  have inPlan : ∀ f : Failure, f.part = .plan ∧ c.fails f → 6000 ≤ f.turn := fun f ⟨hp, hf⟩ => by simpa [hp] using bounds f hf
  unfold ConfigSet.failure
  refine (((((firstOf_policy c).or (firstOf_nodesFailure c) ?_).or (firstOf_hostNode c) ?_).or (firstOf_wake c) ?_).or
    (firstOf_plan c) ?_).congr fun f => ?_
  · intro f g hf hg
    have := inPolicy f hf; have := inNodes g hg; omega
  · rintro f _ hf ⟨-, rfl⟩
    change f.turn ≤ 4000
    rcases hf with hf | hf
    · have := inPolicy f hf; omega
    · have := inNodes f hf; omega
  · rintro f g hf hg
    have := inWake g hg
    rcases hf with (hf | hf) | ⟨-, rfl⟩
    · have := inPolicy f hf; omega
    · have := inNodes f hf; omega
    · exact Nat.le_trans (Nat.le_succ_of_le (Nat.le_add_right 4000 999)) this.1
  · rintro f g hf hg
    have := inPlan g hg
    rcases hf with ((hf | hf) | ⟨-, rfl⟩) | hf
    · have := inPolicy f hf; omega
    · have := inNodes f hf; omega
    · exact Nat.le_trans (Nat.le_add_right 4000 2000) this
    · have := inWake f hf; omega
  · obtain ⟨part, index, reason⟩ := f
    have lt := fun h => fieldFails_lt c.policy index h
    cases part <;> cases reason <;> simp [ConfigSet.fails, and_comm]
    exact lt

theorem fails_index_lt (c : ConfigSet) (f : Failure) (h : c.fails f) : f.index < 32 := by
  have stage : ∀ k g, c.plan.active[k]? = some g → k < 32 := fun k g e => by
    have := (List.getElem?_eq_some_iff.1 e).1
    simp [Plan.active] at this; omega
  obtain ⟨part, index, reason⟩ := f
  cases part <;> cases reason <;> first
    | exact absurd h id
    | exact Nat.lt_of_lt_of_le (fieldFails_lt _ _ h) (by decide)
    | (rcases h with ⟨rfl, -⟩ | ⟨g, hg, -⟩ <;> first | decide | exact stage _ g hg)
    | (obtain ⟨⟨n, _⟩, rfl, -⟩ := h; dsimp only; omega)
    | (obtain ⟨⟨n, _⟩, q, rfl, -⟩ := h; dsimp only; omega)
    | (obtain ⟨⟨n, _⟩, q, L, rfl, -⟩ := h; dsimp only; omega)
    | (obtain ⟨k, g, q, -, hg, -⟩ := h; exact stage _ g hg)

/-- No two failing checks have one place in the order. -/
theorem turn_injective (c : ConfigSet) (f g : Failure) (hf : c.fails f) (hg : c.fails g) (h : f.turn = g.turn) : f = g := by
  have hi := fails_index_lt c f hf
  have hj := fails_index_lt c g hg
  have ten : ∀ f : Failure, c.fails f → f.part = .policy → f.reason = .hostNode → f.index = 10 := by
    rintro ⟨_, _, _⟩ hf rfl rfl; exact hf.1
  have hfi := ten f hf
  have hgi := ten g hg
  obtain ⟨p, i, r⟩ := f
  obtain ⟨q, j, t⟩ := g
  cases p <;> cases r <;> first
    | exact absurd hf id
    | (cases q <;> cases t <;> first
        | exact absurd hg id
        | (simp only [Failure.turn] at h; omega)
        | (simp [Failure.turn] at h hi hj hfi hgi; simp; omega))

end Sys2Proof
end

