-- ==== Sys2Proof/Tests/Slice0.lean ====
section
/-! SUPPORT. The author's own tests: the well-formedness checks, one step of every command on small states, and a concrete state and operands that meet the hypotheses of each statement, at the boundary values of its clauses. -/

namespace Sys2Proof.Tests

open Sys2Proof.Machine

set_option Elab.async false

/-! ### Small states -/

/-- Rail 0 at STANDBY, TRIP; rail 1 at RUN on rail 0, SHED, one retry; gate 24 at RUN on rail 1, no hold. -/
def set : ConfigSet :=
  { ConfigSet.empty with
    nodes := ((ConfigSet.empty.nodes.set 0 { NodeRecord.blankRail with level := 1 }).set 1
      { NodeRecord.blankRail with level := 3, slots := #v[0, 0xFF, 0xFF, 0xFF], flags := 0x0C, retries := 1 }).set 24
      { NodeRecord.blankGate with level := 3, slots := #v[1, 0xFF, 0xFF, 0xFF], riseTime := 5, settleHold := 0 }
    wake := ConfigSet.empty.wake.set 0 { control := 0x11, line := 0, armed := 3, target := 2, notify := 3 }
    plan := { count := 2, stages := (Plan.blank.stages.set 0 ⟨0x10, 0x1F, 100, 1⟩).set 1 ⟨0x20, 0x2F, 100, 0⟩ } }

/-- Running, SETTLED at DEEP, button released, entry 0 watched. -/
def deep : State :=
  { State.reset with
    power := .running, stepFour := true, active := set, staged := set
    button := { Button.start with state := .released, pressed := false }
    wakes := State.reset.wakes.set 0 { WakeLive.start with level := some false }
    retained := Retained.defaults .standbyPower }

/-- A node's live record in a state, with good as given. -/
def at' (st : NodeState) (good : Bool) : NodeLive := { NodeLive.start with state := st, good := good }

/-- SETTLED at STANDBY. -/
def standby : State :=
  { deep.setNode 0 (at' .on true) with plat := { Platform.start with settled := .standby } }

/-- SETTLED at RUN with stage 0 due. -/
def run : State :=
  { (((deep.setNode 0 (at' .on true)).setNode 1 (at' .on true)).setNode 24 (at' .on false)) with
    plat := { Platform.start with settled := .run }
    monitor := { Monitor.start (.armed 0) with deadline := some 1000 } }

/-- A request of the Host Port for a level. -/
def asked (t : Level) (tag : Byte) : Request :=
  { source := .hport, kind := .normal, target := t, via := none, recycle := false, tag := some tag, alternate := false }

/-- Rising from DEEP to STANDBY, rail 0 in RISING with a charge of 1. -/
def rising : State :=
  { deep.setNode 0 { at' .rising false with rise := some 100, charge := some 1, mode := some .sensed } with
    budgetInUse := 1
    plat := { Platform.start with phase := .rising, target := some .standby, inFlight := some (asked .standby 7) } }

/-- The same with rail 0 in SETTLING. -/
def settling : State :=
  rising.setNode 0 { at' .settling true with hold := some 10, charge := some 1 }

/-- Falling from STANDBY to DEEP, rail 0 in DRAINING. -/
def draining : State :=
  { deep.setNode 0 { at' .draining true with fall := some 100, mode := some .sensed } with
    plat := { Platform.start with phase := .falling, settled := .standby, target := some .deep } }

/-- HALTED, rail 0 FAILED. -/
def halted : State :=
  { deep.setNode 0 (at' .failed false) with plat := { Platform.start with phase := .halted, settled := .standby } }

/-- A filter interval of a node, with this much left. -/
def filteringFor (left : Nat) (s : State) (n : NodeId) (toward : Bool) : State :=
  s.setNode n { s.node n with filter := some ⟨toward, left⟩ }

/-- A filter interval of a node, with nothing left. -/
def filtering : State → NodeId → Bool → State := filteringFor 0

/-- A node whose rise, hold and fall timers have nothing left, where they run. -/
def expiring (s : State) (n : NodeId) : State :=
  s.setNode n { s.node n with
    rise := (s.node n).rise.map fun _ => 0, hold := (s.node n).hold.map fun _ => 0, fall := (s.node n).fall.map fun _ => 0 }

/-- Argument bytes 0 to 4 of a port's mailbox. -/
def args (s : State) (p : Port) (a b c d e : Byte) : State :=
  s.setMailbox p { s.mailbox.get p with
    args := ((((Vector.replicate 16 0).set 0 a).set 1 b).set 2 c).set 3 d |>.set 4 e }

/-- The ports stand where the command's byte reaches the part. -/
def reaching (c : Instr) (s : State) : State :=
  match c.byteAt, c with
  | some (.mgmt, a), _ => { s with pointer := a, transfer := true }
  | some (.host, a), _ => { s with frame := .write a }
  | none, .forbiddenRead _ a => { s with frame := .turnaround a }
  | none, _ => s

/-- The state a command leaves, its byte reaching the part. -/
def after (c : Instr) (s : State) : State :=
  match exec c (reaching c s) with
  | .next t => t
  | _ => s

/-- The state a step leaves. -/
def stepped (s : State) : State :=
  match step s with
  | .next t => t
  | _ => s

/-- The result in a port's mailbox. -/
def result (s : State) (p : Port) : Result := (s.mailbox.get p).result

/-! ### Well-formed terms -/

theorem test_wellFormed_rejects_command_code : (Instr.unknownCommand .host 0x01).wellFormed = false ∧
    (Instr.unknownCommand .mgmt 0x18).wellFormed = false ∧ (Instr.unknownCommand .host 0x00).wellFormed = true ∧
    (Instr.unknownCommand .host 0x06).wellFormed = true ∧ (Instr.unknownCommand .host 0x19).wellFormed = true := by decide

/-- The access classes at the ends of their ranges (R177, R179). -/
theorem test_access_classes : ([0x0041, 0x0042, 0x0045, 0x0046].map (hasOwnRow .mgmt)) = [false, true, true, false] ∧
    ([0x000F, 0x0010, 0x001F, 0x0020].map isArgument) = [false, true, true, false] ∧
    ([0x03FF, 0x0400, 0x05FE, 0x05FF, 0x069F, 0x06A0, 0x06EF, 0x06F0, 0x0780, 0x0781, 0x0790, 0x07FF, 0x0820, 0x082E,
      0x082F].map isStaged) = [false, true, true, false, false, true, true, false, true, false, true, true, true, true, false] ∧
    ([0x05FF, 0x0781, 0x0790, 0x082E].map (readForbidden .host)) = [true, false, true, true] ∧
    readForbidden .mgmt 0x0400 = false := by decide

theorem test_wellFormed_rejects_own_row : (Instr.registerWrite .host 0x0020 1).wellFormed = false ∧
    (Instr.registerWrite .host 0x0100 1).wellFormed = false ∧ (Instr.registerWrite .mgmt 0x0042 1).wellFormed = false ∧
    (Instr.registerWrite .mgmt 0x0045 1).wellFormed = false ∧ (Instr.registerWrite .mgmt 0x0100 1).wellFormed = true := by decide

theorem test_wellFormed_rejects_allowed_read : (Instr.forbiddenRead .mgmt 0x0400).wellFormed = false ∧
    (Instr.forbiddenRead .host 0x03FF).wellFormed = false ∧ (Instr.forbiddenRead .host 0x0400).wellFormed = true ∧
    (Instr.forbiddenRead .host 0x082E).wellFormed = true ∧ (Instr.forbiddenRead .host 0x082F).wellFormed = false := by decide

/-! ### Steps and the joint reaction -/

theorem test_front_command : (deep.withPending [.press, .release]).pending = .press :: [.release] ∧
    stepped (deep.withPending [.frameEnd, .release]) = deep.withPending [.release] := by decide +kernel

/-- Every interval that runs has one ms less left. -/
theorem test_millisecond_intervals :
    let s := { filteringFor 2 (filteringFor 1 rising 0 true) 1 true with
      button := { rising.button with filter := some ⟨true, 16⟩, longTimer := some 4000 }
      wakes := rising.wakes.set 0 { WakeLive.start with level := some false, filter := some ⟨true, 8, 8, some 0⟩ } }
    ((stepped s).node 0).filter = some ⟨true, 0⟩ ∧ ((stepped s).node 1).filter = some ⟨true, 1⟩ ∧
      (stepped s).button = ⟨.released, false, some ⟨true, 15⟩, some 3999⟩ ∧
      ((stepped s).wakeLive 0).filter = some ⟨true, 8, 7, some 0⟩ ∧ ((stepped s).node 0).rise = some 99 := by decide +kernel

theorem test_empty_queue_every_phase : (stepped State.reset).uptime = 1 ∧
    (stepped { State.reset with power := .unpowered }).uptime = 0 ∧ (stepped { deep with power := .resetInterval }).uptime = 0 ∧
    (stepped run).uptime = 1 ∧ (stepped run).monitor.deadline = some 999 := by decide +kernel

theorem test_outside_running : State.reset.power ≠ .running ∧ (Instr.pgChange 0 true).supplies = false ∧
    (Instr.submit .host).byteAt = some (.host, 0x0020) ∧
    (∀ f : Frame, f = .none ∨ f = .ignored ∨ f = .opened ∨ f = .write 0x0021 ∨ f = .read 0x0401 ∨ f = .turnaround 0x0401 →
      ({ deep with frame := f } : State).takesByte .host 0x0020 = false ∧ ({ deep with frame := f } : State).takesRead .host 0x0400 = false) ∧
    ({ State.reset with frame := .write 0x0020 } : State).takesByte .host 0x0020 = false ∧ deep.takesByte .mgmt 0x0000 = false ∧
    ({ deep with transfer := true } : State).takesByte .mgmt 0x0020 = false := by
  refine ⟨by decide, by decide, by decide, ?_, by decide, by decide, by decide⟩
  rintro f (rfl | rfl | rfl | rfl | rfl | rfl) <;> decide +kernel

theorem test_quiet_states : deep.quiet ∧ standby.quiet ∧ ({ run with frame := .write 3 } : State).quiet ∧ run.hostLive = true ∧
    rising.quiet ∧ rising.plat.phase ≠ .settled := by
  unfold State.quiet; decide +kernel

/-! The moves of the joint reaction: a still state where each is due. -/

/-- Rail 0 has come ON in a transition to STANDBY. -/
def arrived : State := rising.setNode 0 (at' .on true)

theorem test_down_leg_over :
    let s := { (run.setNode 24 (at' .off false)) with plat := { run.plat with
      phase := .recycling, target := some .run, recycle := some .down, exclusion := [24] } }
    s.still = true ∧ s.plat.phase ≠ .halted ∧ s.downOver ∧ (State.react 1 s).plat.holdTimer = some 100 := by
  unfold State.downOver; decide +kernel

theorem test_settle_due : (arrived.still = true ∧ arrived.settleDue ∧ arrived.plat.via = none) ∧
    (let s := { arrived with plat := { arrived.plat with via := some .standby, target := some .run } }
     s.still = true ∧ s.settleDue ∧ (State.react 1 s).plat.settled = .standby) ∧ (State.react 1 arrived).plat.phase = .settled := by
  refine ⟨⟨by decide +kernel, ⟨by decide, by decide, by decide, .standby, by decide, by decide +kernel⟩, by decide⟩,
    ⟨by decide +kernel, ⟨by decide, by decide, by decide, .standby, by decide, by decide +kernel⟩, by decide +kernel⟩, by decide +kernel⟩

theorem test_forced_due :
    let s := { rising with queue := [{ asked .run 1 with kind := .forced }] }
    s.still = true ∧ s.plat.trip = false ∧ ¬s.downOver ∧ ¬s.settleDue ∧
      (State.react 1 s).completions.host = [⟨7, .superseded, .deep, false⟩] := by
  refine ⟨by decide +kernel, by decide, by unfold State.downOver; decide +kernel, ?_, by decide +kernel⟩
  rintro ⟨-, -, -, L, h, k⟩
  cases h
  exact absurd (k 0) (by decide +kernel)

theorem test_repair_and_take_due :
    let s := standby.setNode 0 (at' .ready true)
    let t := { standby with queue := [asked .standby 1] }
    (s.still = true ∧ ¬s.forcedDue ∧ ¬s.downOver ∧ s.conforms .standby 0 = false ∧ (State.react 1 s).plat.target = some .standby) ∧
      (t.still = true ∧ ¬t.forcedDue ∧ ¬t.downOver ∧ ∀ n, t.conforms .standby n = true) ∧
      (State.react 1 t).completions.host = [⟨1, .noChange, .standby, false⟩] ∧
      (State.react 1 { standby with queue := [asked .run 1] }).plat.phase = .rising := by
  unfold State.forcedDue State.downOver; decide +kernel

theorem test_grant_due :
    let s := { rising.setNode 0 (at' .ready false) with ready := [⟨0, 2⟩], budgetInUse := 0 }
    (s.still = true ∧ s.onlyGrantsLeft ∧ s.headFits 0 ∧ (State.react 1 s).nodeState 0 = .rising) ∧
      (rising.still = true ∧ rising.onlyGrantsLeft ∧ ∀ n, ¬rising.headFits n) := by
  refine ⟨⟨by decide +kernel, ⟨by unfold State.downOver; decide +kernel, ?_, by unfold State.forcedDue; decide +kernel, by decide⟩,
    ⟨⟨_, _, rfl, rfl⟩, by decide +kernel⟩, by decide +kernel⟩, by decide +kernel,
    ⟨by unfold State.downOver; decide +kernel, ?_, by unfold State.forcedDue; decide +kernel, by decide⟩, ?_⟩
  · rintro ⟨-, -, -, L, h, k⟩
    cases h
    exact absurd (k 0) (by decide +kernel)
  · rintro ⟨-, -, -, L, h, k⟩
    cases h
    exact absurd (k 0) (by decide +kernel)
  · rintro n ⟨⟨x, r, h, -⟩, -⟩
    cases h

/-- A node at each clause of its own rules: placed, OFF, draining, held up, at a stand. -/
theorem test_node_turns : (rising.setNode 0 (at' .off false)).wanted 0 = true ∧
    ((rising.setNode 0 (at' .off false)).nodeTurn 0).nodeState 0 = .ready ∧
    (deep.setNode 1 (at' .ready false)).wanted 1 = false ∧ ((deep.setNode 1 (at' .ready false)).nodeTurn 1).nodeState 1 = .off ∧
    (let s := { run with plat := { Platform.start with phase := .falling, settled := .run, target := some .deep } }
     s.wanted 24 = false ∧ s.heldUp 24 = false ∧ (s.nodeTurn 24).nodeState 24 = .off ∧ s.heldUp 0 = true ∧
       ((s.setNode 24 (at' .off false)).nodeTurn 1).nodeState 1 = .draining) ∧ halted.still = true := by decide +kernel

/-- At rest with a FORCED request in the queue: a trip whose rail still drains. -/
theorem test_atRest_forced_during_trip : ∃ s : State, s.atRest = true ∧ s.plat.phase ≠ .halted ∧ s.queue ≠ [] ∧
    s.plat.trip = true :=
  ⟨{ draining with plat := { draining.plat with trip := true }, queue := [{ asked .run 1 with kind := .forced }] },
    by decide +kernel⟩

/-- A state between two events keeps every law, and is at rest (test_quiet_states). -/
theorem test_laws_of_a_running_state : rising.lawful := by
  refine ⟨⟨List.Pairwise.nil, by decide +kernel, by decide +kernel⟩, ?_, ?_, ?_, ?_, ?_, ?_, ?_, ⟨by decide +kernel, ?_, by decide +kernel⟩,
    Nat.zero_le 32, ?_, ?_, ⟨by decide +kernel, ?_, ?_, ?_⟩, ?_, ?_, ?_⟩
  · unfold State.chargeLaw; decide +kernel
  · unfold State.budgetLaw; decide +kernel
  · unfold State.timerLaw; decide +kernel
  · unfold State.energizedLaw; decide +kernel
  · unfold State.platformLaw Platform.law State.haltedLaw State.idleLaw; decide +kernel
  · unfold State.queueLaw; decide +kernel
  · intro p; cases p <;> decide +kernel
  · intro i h; exact absurd h (by change ¬i < 0; omega)
  · intro _
    refine ⟨⟨fun h => (by cases h), fun h => (by obtain ⟨k, h⟩ := h; cases h)⟩, fun k h => (by cases h)⟩
  · refine ⟨fun k h => ?_, fun r h => ?_⟩
    · rcases h with h | h <;> cases h
    · cases h
  · intro h; cases h
  · intro h; cases h
  · intro j h; cases h
  · unfold State.retainedLaw; decide +kernel
  · unfold State.mailboxLaw; decide +kernel
  · intro p; cases p <;> decide +kernel

/-- A boot is watched in a state that keeps the monitor's laws. -/
theorem test_laws_of_a_watched_boot : run.faults.law ∧ run.monitor.logLaw ∧ run.monitorLaw ∧ run.watchLaw ∧ run.configLaw ∧
    run.retainedLaw ∧ run.mailboxLaw ∧ run.causeLaw := by
  refine ⟨⟨by decide +kernel, ?_, by decide +kernel⟩, Nat.zero_le 32, ?_, ?_, ⟨by decide +kernel, ?_, ?_, ?_⟩, ?_, ?_, ?_⟩
  · intro i h; exact absurd h (by change ¬i < 0; omega)
  · intro _
    refine ⟨⟨fun _ => ⟨0, rfl⟩, fun _ => rfl⟩, fun k h => ?_⟩
    cases h; decide +kernel
  · exact ⟨fun _ _ => ⟨rfl, rfl, .inl rfl⟩, fun r h => (by cases h)⟩
  · intro h; cases h
  · intro h; cases h
  · intro j h; cases h
  · unfold State.retainedLaw; decide +kernel
  · unfold State.mailboxLaw; decide +kernel
  · intro p; cases p <;> decide +kernel

/-- The fault log's law with a record in the log. -/
theorem test_fault_law_of_one_record :
    (FaultUnit.mk [{ deep.recordOf .goodLost (some 0) none .tripped with seq := 0xFFFF }] 0 true).law := by
  refine ⟨by decide, ?_, by decide⟩
  intro i h
  have h0 : i = 0 := by simpa using h
  subst h0
  exact (by decide : (0xFFFF : Word) = 0 - BitVec.ofNat 16 1)

/-- Steps from states that keep the laws answer a next state: the invariants' premises meet. -/
theorem test_a_step_answers : (∃ t, step (rising.withPending [.frameEnd]) = .next t) ∧
    ∃ t, step (run.withPending [.deadlineExpiry]) = .next t := ⟨⟨_, rfl⟩, ⟨_, rfl⟩⟩

/-! ### Levels and pins -/

theorem test_members : (set.node 0).memberOf .standby = true ∧ (set.node 0).memberOf .deep = false ∧
    (set.node 1).memberOf .park = false ∧ (set.node 1).memberOf .run = true ∧ (set.node 2).memberOf .run = false := by decide

theorem test_governing_level : deep.plat.governing = some .deep ∧ halted.plat.governing = none ∧
    rising.plat.phase.inFlight = true ∧ rising.plat.governing = some .standby ∧ rising.plat.reference = .standby ∧
    ({ rising.plat with via := some .deep }).governing = some .deep := by decide

/-- R106's table at its four kinds of entry, degraded by a FAILED and by a HELD member, and the dependents of the set. -/
theorem test_trip_levels_and_dependents :
    let dp := fun s : State => { s with active := { set with policy := { set.policy with tripLevel := 0 } } }
    set.policy.tripLevel = 1 ∧ (dp run).effectiveTripLevel 1 = .deep ∧ (dp run).effectiveTripLevel 0 = .deep ∧
      run.effectiveTripLevel 0 = .deep ∧ run.effectiveTripLevel 1 = .standby ∧
      ({ run with active := { set with nodes := set.nodes.set 2 { NodeRecord.blankRail with level := 2 } } } : State).effectiveTripLevel 2 =
        .standby ∧
      (run.setNode 1 (at' .failed false)).degradedAt .run = true ∧ (run.setNode 24 (at' .held false)).degradedAt .run = true ∧
      (run.setNode 1 (at' .failed false)).degradedAt .standby = false ∧ set.dependents 0 = [1] ∧
      set.transitiveDependents 0 = [1, 24] ∧ set.transitiveDependents 24 = [] ∧ set.exclusionSet = [24] := by decide +kernel

theorem test_pins : run.outputPin 0 = .high ∧ deep.outputPin 0 = .low ∧ run.outputPin 24 = .highZ ∧
    deep.outputPin 24 = .low ∧ State.reset.outputPin 0 = .highZ ∧ { deep with power := .resetInterval }.outputPin 0 = .low ∧
    { deep with power := .resetInterval, stepFour := false }.outputPin 0 = .highZ ∧
    { deep with power := .unpowered }.outputPin 0 = .unpowered := by decide

/-! ### Supplies, reset, load -/

theorem test_power_arrival : (after (.standbyPowerArrival true true) { deep with power := .unpowered }).address = 0x4F ∧
    (after (.standbyPowerArrival false false) { deep with power := .unpowered, inputs := { deep.inputs with nrstHigh := false } }).power =
      .resetInterval := by decide +kernel

theorem test_power_loss : (after (.standbyPowerLoss true) run).nodeState 0 = .off ∧
    (after (.standbyPowerLoss true) run).retained.valid = true ∧ (after (.standbyPowerLoss false) run).retained.valid = false := by
  decide +kernel

theorem test_vbat_loss : (after .vbatLoss deep).retained.valid = true ∧
    (after .vbatLoss { deep with power := .unpowered }).retained.valid = false := by decide +kernel

theorem test_nrst : (after .nrstFall run).power = .resetInterval ∧ (after .nrstFall run).stepFour = true ∧
    (after (.nrstRelease true false) (after .nrstFall run)).address = 0x4E := by decide +kernel

/-- A frame in progress is ignored from the stop on; with nCS high none is. -/
theorem test_stop_abandons_the_frame : (after .nrstFall { run with frame := .write 3 }).frame = .ignored ∧
    (after (.standbyPowerLoss true) { run with frame := .read 3 }).frame = .ignored ∧ (after .nrstFall run).frame = .none ∧
    (after (.standbyPowerLoss false) run).retained = { run.retained with mark := false, checkGood := false } := by decide +kernel

/-- Watching starts at an edge sense, at a level sense on an inactive line, on an active line, and on an active line with no debounce. -/
theorem test_watching_starts :
    let c := { set with wake := ((set.wake.set 1 ⟨0x05, 1, 3, 0, 0⟩).set 2 ⟨0x0D, 2, 3, 0, 0⟩).set 3 ⟨0x05, 3, 3, 3, 1⟩ }
    let s := { State.reset with power := .running, active := c, inputs := { State.reset.inputs with
      wk := ((State.reset.inputs.wk.set 0 true).set 2 true).set 3 true } }
    let t := s.startWatching [0, 1, 2, 3]
    [0, 1, 2, 3].map t.wakeLive = [0, 1, 2, 3].map s.watchedAnew ∧ t.wakeLive 2 = ⟨some false, some ⟨true, 1, 1, none⟩, false, none⟩ ∧
      t.wakeLive 3 = ⟨some true, none, true, some 0⟩ ∧ t.wakeLive 1 = ⟨some false, none, false, none⟩ ∧
      (t.wakeLive 0).level = some true ∧ t.causes = ⟨0x0010, 0⟩ ∧ t.queue = [plainRequest .wake .normal .run] := by decide +kernel

theorem test_button_filter_starts : State.reset.lookAtPbtn.button.filter = some ⟨false, 16⟩ ∧
    ({ State.reset with inputs := { State.reset.inputs with pbtnHigh := false } } : State).lookAtPbtn = { State.reset with
      inputs := { State.reset.inputs with pbtnHigh := false } } ∧
    State.reset.lookAtPbtn.lookAtPbtn = State.reset.lookAtPbtn := by decide +kernel

theorem test_load_completion_new_board : (after .loadCompletion State.reset).imageBad = true ∧
    (after .loadCompletion State.reset).plat.settled = .standby ∧
    (after .loadCompletion State.reset).retained.startCause = .standbyPower := by decide +kernel

theorem test_uptime_wrap : (after .uptimeWrap { deep with uptime := 0xFFFFFFFF }).uptime = 0 ∧
    (after .uptimeWrap { deep with uptime := 0xFFFFFFFE }).uptime = 0xFFFFFFFE := by decide +kernel

/-! ### Nodes -/

theorem test_pg_change : rising.sampled 0 = true ∧ rising.sampled 1 = true ∧ rising.sampled 2 = false ∧
    halted.sampled 0 = false ∧ ((after (.pgChange 0 true) rising).node 0).filter = some ⟨true, 2⟩ ∧
    ((after (.pgChange 0 false) (filtering rising 0 true)).node 0).filter = none ∧
    ((after (.pgChange 0 true) (filteringFor 1 rising 0 true)).node 0).filter = some ⟨true, 1⟩ := by decide +kernel

theorem test_pg_change_no_filter :
    let s := { rising with active := { set with policy := { set.policy with goodFilter := 0 } } }
    (after (.pgChange 0 true) s).nodeState 0 = .settling ∧ (after (.pgChange 0 false) { run with active := s.active }).nodeState 0 = .failed := by
  decide +kernel

/-- The filters look at every pin: rail 0 with good present and its pin low starts an interval; rail 1, its pin at good's level, stops one; rail 2 is not sampled. -/
theorem test_all_filters_look :
    let s := filteringFor 1 (filteringFor 1 (run.setNode 1 (at' .on false)) 1 true) 2 true
    s.active.policy.goodFilter ≠ 0 ∧ [0, 1, 2, 24].map s.lookAtAllPg.node = [0, 1, 2, 24].map s.filterStarted ∧
      (s.lookAtAllPg.node 0).filter = some ⟨false, 2⟩ ∧ (s.lookAtAllPg.node 1).filter = none ∧
      (s.lookAtAllPg.node 2).filter = some ⟨true, 1⟩ ∧ s.sampled 0 = true ∧ s.sampled 2 = false ∧
      (s.lookAtAllPg.lookAtPg 0).nodes = s.lookAtAllPg.nodes := by decide +kernel

theorem test_good_taken : ((filtering rising 0 true).node 0).filter = some ⟨true, 0⟩ ∧
    (after (.goodTaken 0) (filtering rising 0 true)).nodeState 0 = .settling ∧ (rising.node 0).filter = none ∧
    after (.goodTaken 0) (filteringFor 1 rising 0 true) = filteringFor 1 rising 0 true := by decide +kernel

theorem test_good_taken_backfeed :
    let s := filtering deep 0 true
    ((after (.goodTaken 0) s).faults.log.map FaultRecord.kind) = [.backfeed] ∧
      (after (.goodTaken 0) (s.setNode 0 { s.node 0 with noted := true })).faults.log = [] := by decide +kernel

/-- A rail held up in each state that only moves good. -/
theorem test_good_taken_elsewhere :
    let s := filtering (draining.setNode 0 { draining.node 0 with good := false }) 0 true
    let t := filtering (rising.setNode 0 { rising.node 0 with mode := some .timed }) 0 true
    (after (.goodTaken 0) s).nodeState 0 = .draining ∧ (after (.goodTaken 0) t).nodeState 0 = .rising ∧
      ((after (.goodTaken 0) t).node 0).good = true := by decide +kernel

theorem test_good_lost_trips : (after (.goodFalls 0) (filtering run 0 false)).nodeState 0 = .failed ∧
    (after (.goodFalls 0) (filtering run 0 false)).plat.trip = true ∧
    (after (.goodFalls 0) (filtering run 0 false)).retained.firstFault.isSome = true := by decide +kernel

theorem test_good_lost_sheds : (after (.goodFalls 1) (filtering run 1 false)).nodeState 1 = .failed ∧
    (after (.goodFalls 1) (filtering run 1 false)).nodeState 24 = .held ∧
    (after (.goodFalls 1) (filtering run 1 false)).plat.phase = .settled := by decide +kernel

theorem test_good_lost_halts_during_trip :
    let s := filtering { settling with plat := { settling.plat with trip := true, inFlight := none } } 0 false
    s.actionAt 0 = .halted ∧ (after (.goodFalls 0) s).plat.phase = .halted := by decide +kernel

theorem test_good_falls_ends_drain :
    let timed := filtering (draining.setNode 0 { draining.node 0 with mode := some .timed }) 0 false
    (after (.goodFalls 0) (filtering draining 0 false)).nodeState 0 = .off ∧
      (after (.goodFalls 0) (filtering draining 0 false)).plat.settled = .deep ∧
      (after (.goodFalls 0) timed).nodeState 0 = .draining ∧
      ((after (.goodFalls 0) (filtering deep 0 false)).node 0).filter = none := by decide +kernel

/-- Retries: rail 1 has one left, then none. -/
theorem test_rise_timeout :
    let up : State := { run.setNode 1 { at' .rising false with rise := some 0, charge := some 1, mode := some .sensed } with
      budgetInUse := 1, plat := { Platform.start with phase := .rising, settled := .standby, target := some .run } }
    let used := up.setNode 1 { up.node 1 with retry := 1 }
    (up.node 1).retry < (up.record 1).retries.toNat ∧ (after (.riseTimerExpiry 1) up).nodeState 1 = .draining ∧
      (up.record 1).retries.toNat ≤ (used.node 1).retry ∧ (after (.riseTimerExpiry 1) used).nodeState 1 = .failed := by
  decide +kernel

theorem test_rise_timer_timed :
    let s := rising.setNode 24 { at' .rising false with rise := some 0, charge := some 1, mode := some .timed }
    (s.nodeState 24 = .rising ∧ (s.node 24).rise ≠ none ∧ (s.node 24).mode ≠ some .sensed ∧ (s.record 24).settleHold = 0) ∧
      (after (.riseTimerExpiry 24) { s with plat := { run.plat with phase := .rising, target := some .run } }).nodeState 24 = .on := by
  decide +kernel

theorem test_settle_hold :
    let s := expiring settling 0
    s.nodeState 0 = .settling ∧ (s.node 0).hold = some 0 ∧ (after (.settleHoldExpiry 0) s).nodeState 0 = .on ∧
      (after (.settleHoldExpiry 0) s).plat.phase = .settled ∧
      ((after (.settleHoldExpiry 0) s).completions.host.map Completion.ending) = [.done] ∧
      after (.settleHoldExpiry 0) settling = settling := by decide +kernel

theorem test_fall_timer :
    let s := expiring draining 0
    (after (.fallTimerExpiry 0) s).plat.tripped = true ∧
      ((after (.fallTimerExpiry 0) s).faults.log.map FaultRecord.kind) = [.fallTimeout] ∧
      (after (.fallTimerExpiry 0) (s.setNode 0 { s.node 0 with good := false })).nodeState 0 = .off ∧
      s.actionAt 0 = .tripped ∧ after (.fallTimerExpiry 0) draining = draining := by decide +kernel

theorem test_recycle_hold :
    let s := { (run.setNode 24 (at' .off false)) with plat := { run.plat with
      phase := .recycling, target := some .run, recycle := some .hold, exclusion := [24], holdTimer := some 0 } }
    s.plat.recycle = some .hold ∧ s.plat.holdTimer = some 0 ∧ (after .recycleHoldExpiry s).nodeState 24 = .rising := by decide +kernel

/-! ### Button, idle timer, wake lines -/

theorem test_pbtn_change : (after (.pbtnChange false) deep).button.filter = some ⟨true, 16⟩ ∧
    (after (.pbtnChange true) (after (.pbtnChange false) deep)).button.filter = none := by decide +kernel

/-- The button with an interval that ends. -/
def debounced (s : State) (st : ButtonState) (down : Bool) : State :=
  { s with button := { state := st, pressed := !down, filter := some ⟨down, 0⟩
                       longTimer := if st = .pressed then some 4000 else none } }

theorem test_press : (debounced deep .released true).button.filter = some ⟨true, 0⟩ ∧
    (after .press (debounced deep .released true)).button = ⟨.pressed, true, none, some 4000⟩ ∧
    (after .press (debounced deep .locked true)).button.state = .locked := by decide +kernel

theorem test_release : (debounced deep .pressed false).button.filter = some ⟨false, 0⟩ ∧
    (debounced deep .pressed false).plat.reference ≠ .run ∧ (after .release (debounced deep .pressed false)).plat.target = some .run ∧
    (after .release (debounced run .pressed false)).causes.mgmt = 0x0020 ∧
    (after .release (debounced deep .locked false)).button.state = .released ∧
    (after .release (debounced halted .locked false)).button.state = .locked ∧
    (after .release (debounced deep .long false)).button.state = .released := by decide +kernel

theorem test_long_press :
    let s := { run with button := ⟨.pressed, true, none, some 0⟩ }
    s.button.longTimer = some 0 ∧ (after .longPress s).button.state = .long ∧ (after .longPress s).plat.target = some .standby := by
  decide +kernel

theorem test_idle_timer : (after .idleTimerExpiry { standby with idle := some 0 }).plat.target = some .deep ∧
    (after .idleTimerExpiry standby) = standby := by decide +kernel

theorem test_wake_line : (deep.wakeEntry 0).onLine 0 = true ∧ (deep.wakeLive 0).level = some false ∧
    (deep.wakeEntry 0).debounce = 8 ∧ ((after (.wakeLineChange 0 true) deep).wakeLive 0).filter = some ⟨true, 8, 8, some 0⟩ ∧
    (after (.wakeLineChange 0 true) (after (.wakeLineChange 0 true) deep)).wakes = (after (.wakeLineChange 0 true) deep).wakes ∧
    (after (.wakeLineChange 0 false) (after (.wakeLineChange 0 true) deep)).wakes = deep.wakes ∧
    (after (.wakeLineChange 1 true) deep).wakes = deep.wakes := by decide +kernel

/-- With no debounce the edge comes at once: entry 0 matches, acts, and asks for PARK. -/
theorem test_wake_line_no_debounce :
    let c := { set with wake := set.wake.set 0 { set.wake[0] with control := 0x01 } }
    let t := after (.wakeLineChange 0 true) { deep with active := c }
    t.wakeLive 0 = ⟨some true, none, true, some 0⟩ ∧ t.plat.target = some .park ∧ t.causes = ⟨0x0010, 0x0010⟩ := by decide +kernel

/-- Entry 0's interval, with nothing left: a match at DEEP, which is armed, asks for PARK and notifies both ports. -/
theorem test_wake_debounce :
    let s := deep.setWake 0 { WakeLive.start with level := some false, filter := some ⟨true, 8, 0, some 0⟩ }
    (s.wakeLive 0).filter = some ⟨true, 8, 0, some 0⟩ ∧ (s.wakeEntry 0).armedAt s.plat.reference = true ∧
      (s.wakeEntry 0).targetOf = some .park ∧ (after (.wakeDebounceExpiry 0) s).plat.target = some .park ∧
      (after (.wakeDebounceExpiry 0) s).causes = ⟨0x0010, 0x0010⟩ ∧
      (let u := deep.setWake 0 { s.wakeLive 0 with filter := some ⟨true, 8, 1, some 0⟩ }
       after (.wakeDebounceExpiry 0) u = u) := by decide +kernel

/-- Two entries of one line: intervals of one line change end together, intervals of two changes do not (R128). -/
theorem test_wake_debounce_together :
    let c := { set with wake := set.wake.set 1 { set.wake[0] with target := 3 } }
    let s := fun (k : Option Nat) => (({ deep with active := c } : State).setWake 0
      { WakeLive.start with level := some false, filter := some ⟨true, 8, 0, some 0⟩ }).setWake 1
      { WakeLive.start with level := some false, filter := some ⟨true, 8, 0, k⟩ }
    (after (.wakeDebounceExpiry 0) (s (some 0))).plat.target = some .run ∧
      (after (.wakeDebounceExpiry 0) (s (some 1))).plat.target = some .park ∧
      (after (.wakeDebounceExpiry 0) (s none)).plat.target = some .park := by decide +kernel

/-- The same entry with no target and no port to notify: pending alone is set. -/
theorem test_wake_debounce_no_target :
    let c := { set with wake := set.wake.set 0 ⟨0x11, 0, 3, 0, 0⟩ }
    let s := { deep.setWake 0 { WakeLive.start with level := some false, filter := some ⟨true, 8, 0, none⟩ } with active := c }
    (after (.wakeDebounceExpiry 0) s).plat = deep.plat ∧ (after (.wakeDebounceExpiry 0) s).causes = ⟨0, 0⟩ ∧
      ((after (.wakeDebounceExpiry 0) s).wakeLive 0).pending = true := by decide +kernel

/-! ### The progress supervisor -/

/-- SETTLED at RUN, the deadline of stage 0 with nothing left. -/
def late : State := { run with monitor := { run.monitor with deadline := some 0 } }

theorem test_deadline_warm : late.monitor.state = .armed 0 ∧ late.monitor.deadline = some 0 ∧
    (after .deadlineExpiry late).plat.phase = .recycling ∧ (after .deadlineExpiry late).monitor.recoveryCount = 1 := by
  decide +kernel

/-- No expiry follows a post that reaches the stage, nor one of the next stage (R143). -/
theorem test_deadline_after_a_post :
    let t := after (.post 0) (after (.postLowByte 0x12) late)
    t.monitor.state = .armed 1 ∧ t.monitor.deadline = some 1000 ∧ after .deadlineExpiry t = t := by decide +kernel

/-- The other decisions: NOTE, COLD, ALTERNATE where allowed and where not, HOLD_OFF at the limit. -/
theorem test_deadline_other_decisions :
    let stage := fun (a allowed : Byte) (count : Nat) => after .deadlineExpiry { late with
      active := { set with plan := { set.plan with stages := set.plan.stages.set 0 ⟨0x10, 0x1F, 100, a⟩ }
                           policy := { set.policy with alternateAllowed := allowed } }
      monitor := { late.monitor with recoveryCount := count } }
    (stage 0 0 9).monitor.state = .stalled 0 ∧ ((stage 2 0 1).faults.log.map FaultRecord.action) = [.cold] ∧
      ((stage 3 1 1).faults.log.map FaultRecord.action) = [.alternate] ∧
      ((stage 3 0 1).faults.log.map FaultRecord.action) = [.cold] ∧
      ((stage 1 0 2).faults.log.map FaultRecord.action) = [.holdOff] := by decide +kernel

theorem test_posts : ({ run with frame := .write 0x0100 } : State).takesByte .host 0x0100 = true ∧
    ({ run with frame := .write 0x0101 } : State).takesByte .host 0x0101 = true ∧ (after (.postLowByte 0x12) run).monitor.holding = 0x12 ∧
    (after (.post 0) (after (.postLowByte 0x12) run)).monitor.state = .armed 1 ∧
    (after (.post 0) (after (.postLowByte 0x20) run)).monitor.state = .complete ∧
    (after (.post 0) (after (.postLowByte 0x20) run)).monitor.skipCount = 1 ∧
    (after (.post 1) run).monitor.state = .armed 0 ∧ (after (.post 1) deep).monitor.postCount = 1 := by decide +kernel

/-! ### Request commands -/

theorem test_takes_commands : ({ deep with frame := .write 0x0020 } : State).takesCommand .host ∧
    ({ deep with pointer := 0x0020, transfer := true } : State).takesCommand .mgmt := by
  unfold State.takesCommand; decide +kernel

/-- The same in a state at rest. -/
theorem test_takes_commands_at_rest : ({ rising with frame := .write 0x0020 } : State).quiet ∧
    ({ rising with frame := .write 0x0020 } : State).takesCommand .host := by
  unfold State.quiet State.takesCommand; decide +kernel

theorem test_submit_accepts :
    let s := after (.submit .host) (args deep .host 0 1 0xFF 0 7)
    result s .host = .accepted ∧ s.plat.phase = .rising ∧ s.nodeState 0 = .rising ∧ s.budgetInUse = 1 := by decide +kernel

/-- The argument bytes at the ends of their ranges. -/
theorem test_submitted :
    (args deep .host 0 0 0xFF 0xFE 0).submitted .host = some ⟨.hport, .normal, .deep, none, false, some 0, false⟩ ∧
      (args deep .mgmt 1 3 0 0x01 0xFF).submitted .mgmt = some ⟨.mport, .forced, .run, some .deep, true, some 0xFF, false⟩ ∧
      (args deep .mgmt 1 3 3 0 7).submitted .mgmt = some ⟨.mport, .forced, .run, some .run, false, some 7, false⟩ ∧
      (args deep .host 2 0 0xFF 0 0).submitted .host = none ∧ (args deep .host 0 4 0xFF 0 0).submitted .host = none ∧
      (args deep .host 0 0 4 0 0).submitted .host = none ∧ (args deep .host 0 0 0xFE 0 0).submitted .host = none := by decide +kernel

/-- Each refusal, with the quota at its bound. -/
theorem test_submit_refusals :
    let full := fun k => { deep with completions := ⟨List.replicate k ⟨0, .done, .deep, false⟩, []⟩ }
    result (after (.submit .host) (args deep .host 2 1 0xFF 0 7)) .host = .invalid ∧
      result (after (.submit .host) (args deep .host 1 1 0xFF 0 7)) .host = .invalid ∧
      result (after (.submit .mgmt) (args deep .mgmt 1 3 3 0 7)) .mgmt = .invalid ∧
      result (after (.submit .mgmt) (args deep .mgmt 1 2 0xFF 1 7)) .mgmt = .invalid ∧
      result (after (.submit .mgmt) (args halted .mgmt 1 3 0xFF 0 7)) .mgmt = .halted ∧
      result (after (.submit .host) (args { deep with hostLock := true } .host 0 1 0xFF 0 7)) .host = .denied ∧
      result (after (.submit .host) (args deep .host 0 0 0xFF 0 7)) .host = .denied ∧
      result (after (.submit .host) (args (full 4) .host 0 1 0xFF 0 7)) .host = .busy ∧
      result (after (.submit .host) (args (full 3) .host 0 1 0xFF 0 7)) .host = .accepted := by decide +kernel

/-- A queued request, its replacement, a merge, an overtake and a wait for a trip, with what they displace. -/
theorem test_arrivals :
    let wake := fun t => plainRequest .wake .normal t
    let s := rising.arrive (wake .park)
    let forced := { asked .deep 9 with kind := .forced }
    let two := rising.arrive (asked .run 8)
    let tripping := { two with plat := { two.plat with trip := true, inFlight := none } }
    s.queue = [wake .park] ∧ (s.arrive (wake .standby)).queue = [wake .park] ∧ (s.arrive (wake .run)).queue = [wake .run] ∧
      (two.arrive (asked .park 9)).queue = [asked .park 9] ∧
      (two.arrive (asked .park 9)).completions.host = [⟨8, .superseded, .deep, false⟩] ∧
      (two.arrive forced).plat.target = some .deep ∧
      (two.arrive forced).completions.host = [⟨7, .superseded, .deep, false⟩, ⟨8, .superseded, .deep, false⟩] ∧
      (tripping.arrive forced).queue = [forced] ∧
      (tripping.arrive forced).completions.host = [⟨8, .superseded, .deep, false⟩] ∧ halted.arrive (wake .run) = halted := by
  decide +kernel

theorem test_cancel :
    let s := { rising with queue := [asked .park 9] }
    result (after (.cancel .host) (args s .host 9 0 0 0 0)) .host = .ok ∧
      (after (.cancel .host) (args s .host 9 0 0 0 0)).completions.host = [⟨9, .cancelled, .deep, false⟩] ∧
      result (after (.cancel .host) (args s .host 7 0 0 0 0)) .host = .inFlight ∧
      result (after (.cancel .host) (args s .host 8 0 0 0 0)) .host = .stale ∧
      result (after (.cancel .mgmt) (args s .mgmt 9 0 0 0 0)) .mgmt = .stale := by decide +kernel

theorem test_ack_completion :
    let s := { deep with completions := ⟨[⟨3, .done, .deep, false⟩, ⟨4, .done, .deep, false⟩], []⟩ }
    (after (.ackCompletion .host) (args s .host 3 0 0 0 0)).completions.host = [⟨4, .done, .deep, false⟩] ∧
      result (after (.ackCompletion .host) (args s .host 4 0 0 0 0)) .host = .stale ∧
      result (after (.ackCompletion .mgmt) (args s .mgmt 3 0 0 0 0)) .mgmt = .stale := by decide +kernel

theorem test_ack_fault :
    let f := deep.recordOf .goodLost (some 0) none .tripped
    let s := { deep with faults := ⟨[{ f with seq := 0x0102 }], 0x0103, true⟩ }
    (after (.ackFault .mgmt) (args s .mgmt 2 1 0 0 0)).faults = ⟨[], 0x0103, false⟩ ∧
      result (after (.ackFault .host) (args s .host 1 2 0 0 0)) .host = .stale ∧
      result (after (.ackFault .host) deep) .host = .stale := by decide +kernel

theorem test_clear_wake :
    let s := deep.setWake 15 { WakeLive.start with pending := true }
    ((after (.clearWake .host) (args s .host 15 0 0 0 0)).wakeLive 15).pending = false ∧
      result (after (.clearWake .host) (args s .host 16 0 0 0 0)) .host = .invalid := by decide +kernel

/-- A level-sense entry still active matches again: entry 0 as HIGH, armed at DEEP, then not armed. -/
theorem test_clear_wake_matches_again :
    let c := fun armed target => { set with wake := set.wake.set 0 ⟨0x05, 0, armed, target, 1⟩ }
    let s := fun armed target => { deep.setWake 0 ⟨some true, none, true, none⟩ with active := c armed target }
    ((after (.clearWake .host) (s 1 2)).wakeLive 0).pending = true ∧ (after (.clearWake .host) (s 1 2)).plat.target = some .park ∧
      (after (.clearWake .host) (s 2 2)).plat.target = none ∧ (after (.clearWake .host) (s 1 0)).causes = ⟨0x0090, 0⟩ := by
  decide +kernel

/-! ### Configuration commands -/

theorem test_set_is_valid : set.valid = true ∧ ConfigSet.empty.valid = true := by decide +kernel

theorem test_commit :
    let lower := { set with nodes := set.nodes.set 1 { set.node 1 with retries := 3 } }
    (after (.commit .mgmt) { run with staged := lower }).active = lower ∧
      result (after (.commit .mgmt) rising) .mgmt = .busy ∧
      ((after (.commit .mgmt) { run with staged := ConfigSet.empty }).mailbox.mgmt.detail = ⟨0, 0, 9⟩) := by decide +kernel

/-- What an accepted COMMIT carries: rail 0 made TIMED loses good, FAILED rail 1 made UNUSED is OFF, the plan's change ends the watch. -/
theorem test_commit_carries :
    let timed := { set with nodes := set.nodes.set 0 { set.node 0 with flags := 0x05 } }
    let fewer := { set with nodes := (set.nodes.set 1 NodeRecord.blankRail).set 24 NodeRecord.blankGate }
    let plan := { set with plan := { set.plan with count := 1 } }
    ((after (.commit .mgmt) { run with staged := timed }).node 0).good = false ∧
      (after (.commit .mgmt) { standby.setNode 1 (at' .failed false) with staged := fewer }).nodeState 1 = .off ∧
      (after (.commit .mgmt) { run with staged := plan }).monitor.state = .idle := by decide +kernel

/-- Rail 0 drains at a COMMIT that makes it stand on rail 2, which is OFF; the idle timer starts; entry 0, a HIGH sense on a high line, matches at once. -/
theorem test_commit_drops_and_watches :
    let zero := { set.node 0 with slots := #v[2, 0xFF, 0xFF, 0xFF], level := 3 }
    let onTwo := { set with nodes := (set.nodes.set 0 zero).set 2 { NodeRecord.blankRail with level := 3 } }
    let s := { deep.setNode 0 (at' .on true) with staged := onTwo }
    let idle := { set with policy := { set.policy with autoDeepDelay := 1 } }
    let wake := { set with wake := set.wake.set 0 ⟨0x05, 0, 3, 2, 3⟩ }
    let high := { deep with staged := wake, inputs := { deep.inputs with wk := deep.inputs.wk.set 0 true } }
    s.adoptDrops 0 = true ∧ (after (.commit .mgmt) { standby with staged := idle }).idle = some 1000 ∧
      high.matchesAtOnce 0 = true ∧ (after (.commit .mgmt) high).plat.target = some .park ∧
      (after (.commit .mgmt) high).wakeLive 0 = ⟨some true, none, true, some 0⟩ := by decide +kernel

theorem test_commit_validation :
    let bad := { set with nodes := set.nodes.set 31 { NodeRecord.blankGate with flags := 0x02 } }
    (after (.commit .mgmt) { deep with staged := bad }).mailbox.mgmt.result = .validation ∧
      (after (.commit .mgmt) { deep with staged := bad }).mailbox.mgmt.detail = ⟨0, 31, 4⟩ ∧
      (after (.commit .mgmt) { deep with staged := bad }).active = set := by decide +kernel

/-- A set that fails each check, and the failure reported (R14 to R16, R122, R138, R153); of two failures the first in order is. -/
theorem test_failures :
    let node := fun (n : NodeId) (f : NodeRecord → NodeRecord) => { set with nodes := set.nodes.set n.val (f (set.node n)) }
    let wake := fun (e : WakeEntry) => { set with wake := set.wake.set 15 e }
    let plan := fun (a b : Stage) => { set with plan := ⟨2, (Plan.blank.stages.set 0 a).set 1 b⟩ }
    let policy := fun (f : Policy → Policy) => { set with policy := f set.policy }
    (policy fun p => { p with budget := 0 }).failure = some ⟨.policy, 0, .range⟩ ∧
      (policy fun p => { p with hostNode := 24 }).failure = some ⟨.policy, 10, .range⟩ ∧
      (policy fun p => { p with hostNode := 2 }).failure = some ⟨.policy, 10, .hostNode⟩ ∧
      (node 0 fun r => { r with riseTime := 0 }).failure = some ⟨.node, 0, .range⟩ ∧
      (node 0 fun r => { r with riseTime := 0, flags := 0x05 }).failure = none ∧
      (node 31 fun r => { r with flags := 0x02 }).failure = some ⟨.node, 31, .gateMode⟩ ∧
      (node 1 fun r => { r with slots := #v[0, 0, 0xFF, 0xFF] }).failure = some ⟨.node, 1, .badPrereq⟩ ∧
      (node 1 fun r => { r with level := 1, slots := #v[0xFF, 0xFF, 0xFF, 0xFF] }).failure = none ∧
      (node 0 fun r => { r with slots := #v[0xFF, 1, 0xFF, 0xFF] }).failure = some ⟨.node, 0, .levelOrder⟩ ∧
      (policy fun p => { p with budget := 1 }).failure = none ∧
      (node 1 fun r => { r with weight := 15 }).failure = none ∧
      ({ (node 1 fun r => { r with weight := 15 }) with policy := { set.policy with budget := 14 } } : ConfigSet).failure =
        some ⟨.node, 1, .weight⟩ ∧
      ({ (node 1 fun r => { r with slots := #v[24, 0xFF, 0xFF, 0xFF] }) with policy := set.policy } : ConfigSet).failure =
        some ⟨.node, 1, .cycle⟩ ∧
      (wake ⟨0x20, 0, 0, 0, 0⟩).failure = some ⟨.wake, 15, .range⟩ ∧ (wake ⟨0, 0, 4, 2, 0⟩).failure = some ⟨.wake, 15, .wakeTarget⟩ ∧
      (wake ⟨0, 15, 3, 2, 3⟩).failure = none ∧ ({ set with plan := { set.plan with count := 17 } } : ConfigSet).failure = some ⟨.plan, 0, .range⟩ ∧
      (plan ⟨5, 4, 1, 0⟩ ⟨5, 4, 1, 0⟩).failure = some ⟨.plan, 0, .range⟩ ∧ (plan ⟨4, 5, 1, 0⟩ ⟨5, 6, 1, 0⟩).failure = some ⟨.plan, 1, .planOverlap⟩ ∧
      (plan ⟨4, 5, 1, 0⟩ ⟨6, 6, 0xFFFF, 3⟩).failure = none ∧
      ({ (node 31 fun r => { r with flags := 0x02 }) with policy := { set.policy with goodFilter := 8 } } : ConfigSet).failure =
        some ⟨.policy, 1, .range⟩ := by decide +kernel

/-- Failing checks named in full: the valid set has none at these, and the order puts the policy record's RANGE before GATE_MODE. -/
theorem test_fails :
    let bad := { set with nodes := set.nodes.set 31 { NodeRecord.blankGate with flags := 0x02 }, policy := { set.policy with goodFilter := 8 } }
    bad.fails ⟨.policy, 1, .range⟩ ∧ bad.fails ⟨.node, 31, .gateMode⟩ ∧ ¬set.fails ⟨.node, 31, .gateMode⟩ ∧
      Failure.turn ⟨.policy, 1, .range⟩ < Failure.turn ⟨.node, 31, .gateMode⟩ := by
  refine ⟨⟨8, 0, 7, rfl, by decide, by decide⟩, ⟨31, rfl, by decide, by decide⟩, ?_, by decide⟩
  rintro ⟨n, h, -, k⟩
  obtain rfl : n = 31 := Fin.ext h
  exact absurd k (by decide)

theorem test_store : (after (.store .mgmt) deep).mailbox.mgmt.status = .busy ∧
    ((after (.store .mgmt) deep).storeJob.map StoreJob.target) = some .bank0 := by decide +kernel

/-- Both banks valid: neither newer, with equal generations and with generations 32768 apart; either newer, at the end of the range; and bank 1 alone. -/
theorem test_newest_of_two_valid_banks (c : ConfigSet) :
    let s := fun g g' : Word => { deep with bank0 := ⟨true, g, c, imageCrc g c⟩, bank1 := ⟨true, g', c, imageCrc g' c⟩ }
    (s 5 5).newestValid = some .bank0 ∧ (s 5 0x8005).newestValid = some .bank0 ∧ (s 5 0x8004).newestValid = some .bank1 ∧
      (s 0x8004 5).newestValid = some .bank0 ∧ { deep with bank1 := ⟨true, 5, c, imageCrc 5 c⟩ }.newestValid = some .bank1 ∧
      deep.newestValid = none := by
  have h : ∀ g, Bank.valid ⟨true, g, c, imageCrc g c⟩ = true := fun g => by simp [Bank.valid]
  have both : ∀ g g', State.newestValid { deep with bank0 := ⟨true, g, c, imageCrc g c⟩, bank1 := ⟨true, g', c, imageCrc g' c⟩ } =
      if newer g' g then some .bank1 else some .bank0 := fun g g' => by simp only [State.newestValid, h]
  have one : ∀ g, State.newestValid { deep with bank1 := ⟨true, g, c, imageCrc g c⟩ } = some .bank1 := fun g => by
    simp only [State.newestValid, h]; rfl
  exact ⟨(both _ _).trans (if_neg (by decide)), (both _ _).trans (if_neg (by decide)), (both _ _).trans (if_pos (by decide)),
    (both _ _).trans (if_neg (by decide)), one _, rfl⟩

/-- Both answers of the newest-bank choice: a valid bank 0 alone, and bank 1 one newer. -/
theorem test_newest_valid_bank (c : ConfigSet) :
    let b : Word → Bank := fun g => ⟨true, g, c, imageCrc g c⟩
    { deep with bank0 := b 0xFFFF }.newestValid = some .bank0 ∧
      { deep with bank0 := b 0xFFFF, bank1 := b 0 }.newestValid = some .bank1 := by
  have h : ∀ g, Bank.valid ⟨true, g, c, imageCrc g c⟩ = true := fun g => by simp [Bank.valid]
  constructor
  · simp only [State.newestValid, h]; rfl
  · simp only [State.newestValid, h]; rfl

/-- A load finds the image of the newest valid bank, whatever resume policy it holds. -/
theorem test_load_of_a_stored_image (c : ConfigSet) :
    let s := { State.reset with bank0 := ⟨true, 1, c, imageCrc 1 c⟩ }
    s.power = .loading ∧ s.newestValid = some .bank0 ∧ (s.bank .bank0).image = c := by
  have h : ∀ g, Bank.valid ⟨true, g, c, imageCrc g c⟩ = true := fun g => by simp [Bank.valid]
  refine ⟨rfl, ?_, rfl⟩
  simp only [State.newestValid, h]; rfl

theorem test_store_completion :
    let s := { deep with storeJob := some ⟨.bank1, 5, set⟩ }
    (after (.storeCompletion true) s).bank1.mark = true ∧ (after (.storeCompletion true) s).bank1.generation = 5 ∧
      (after (.storeCompletion false) s).bank1.mark = false ∧ result (after (.storeCompletion false) s) .mgmt = .storeFailed := by
  decide +kernel

/-! ### Fault, monitor and record commands -/

theorem test_clear_faults : (after (.clearFaults .mgmt) (standby.setNode 0 (at' .failed false))).nodeState 0 = .rising ∧
    result (after (.clearFaults .mgmt) rising) .mgmt = .busy := by decide +kernel

theorem test_clear_halt : (after (.clearHalt .mgmt) halted).plat.phase = .settled ∧
    (after (.clearHalt .mgmt) halted).plat.settled = .deep ∧ (after (.clearHalt .mgmt) halted).nodeState 0 = .off ∧
    result (after (.clearHalt .mgmt) deep) .mgmt = .stale := by decide +kernel

theorem test_monitor_commands : (after (.monitorOn .mgmt) deep).monitor.state = .idle ∧
    (after (.monitorOff .mgmt) run).monitor.state = .disabled ∧ (after (.monitorOff .mgmt) run).monitor.deadline = none := by
  decide +kernel

theorem test_set_bsel : (after (.setBsel .mgmt) (args deep .mgmt 1 0 0 0 0)).bselPin = .high ∧
    (after (.setBsel .mgmt) (args deep .mgmt 0 0 0 0 0)).bselPin = .low ∧
    result (after (.setBsel .mgmt) (args deep .mgmt 2 0 0 0 0)) .mgmt = .invalid ∧
    result (after (.setBsel .mgmt) (args run .mgmt 1 0 0 0 0)) .mgmt = .busy ∧
    result (after (.setBsel .mgmt) (args rising .mgmt 0 0 0 0 0)) .mgmt = .busy := by decide +kernel

theorem test_host_lock : (after (.hostLock .mgmt) (args deep .mgmt 1 0 0 0 0)).hostLock = true ∧
    (after (.hostLock .mgmt) (args { deep with hostLock := true } .mgmt 0 0 0 0 0)).hostLock = false ∧
    result (after (.hostLock .mgmt) (args deep .mgmt 2 0 0 0 0)) .mgmt = .invalid := by decide +kernel

theorem test_clear_retained : (after (.clearRetained .mgmt) deep).retained.lost = false ∧ deep.retained.lost = true := by decide +kernel

/-! ### Ports -/

theorem test_unknown_command : result (after (.unknownCommand .host 0x06) deep) .host = .invalid ∧
    (after (.unknownCommand .host 0x06) deep).mailbox.host.command = 0x06 := by decide +kernel

theorem test_management_command_on_host_port : result (after (.commit .host) deep) .host = .cls ∧
    result (after (.clearRetained .host) deep) .host = .cls ∧ (Instr.commit .host).commandCode = some 0x10 ∧
    (Instr.clearRetained .host).commandCode = some 0x18 := by decide +kernel

theorem test_busy_mailbox :
    let s := { deep with mailbox := { deep.mailbox with mgmt := { deep.mailbox.mgmt with status := .busy } } }
    (after (.submit .mgmt) s).causes.mgmt = 0x0200 ∧ (after (.submit .mgmt) s).mailbox = s.mailbox := by decide +kernel

theorem test_acknowledge : (after (.causeAcknowledge .host false 0x08) { deep with causes := ⟨0x0308, 0x0308⟩ }).causes = ⟨0x0300, 0x0308⟩ ∧
    (after (.causeAcknowledge .mgmt true 0x01) { deep with causes := ⟨0x0308, 0x0308⟩ }).causes = ⟨0x0308, 0x0208⟩ := by decide +kernel

theorem test_mask : (after (.maskWrite .host false 0xFF) deep).masks.host = 0x00FF ∧
    (after (.maskWrite .mgmt true 0xFF) deep).masks.mgmt = 0x0300 := by decide +kernel

theorem test_register_write : (after (.registerWrite .host 0x0010 0xAB) deep).mailbox.host.args[0] = 0xAB ∧
    (after (.registerWrite .mgmt 0x001F 0xAB) deep).mailbox.mgmt.args[15] = 0xAB ∧
    (after (.registerWrite .mgmt 0x0400 2) deep).staged.node 0 = { set.node 0 with level := 2 } ∧
    (after (.registerWrite .mgmt 0x05FE 1) deep).staged.node 31 = { set.node 31 with fallTime := 0x0164 } ∧
    (after (.registerWrite .mgmt 0x082E 1) deep).staged.policy.alternateAllowed = 1 := by decide +kernel

theorem test_register_write_violates : (after (.registerWrite .mgmt 0x05FF 1) deep).causes.mgmt = 0x0100 ∧
    (after (.registerWrite .host 0x0400 1) deep).causes.host = 0x0100 ∧
    (after (.registerWrite .mgmt 0x0100 1) deep).causes.mgmt = 0x0100 := by decide +kernel

theorem test_forbidden_read : (after (.forbiddenRead .host 0x0400) deep).causes.host = 0x0100 ∧
    deep.windowByte .host 0x0400 = 0 ∧ deep.windowByte .mgmt 0x0400 = 1 := by decide +kernel

/-- The window of a running part at some of its locations. -/
theorem test_window : run.windowDword .host 0x0004 = 0 ∧ run.windowByte .host 0x0008 = 3 ∧ run.windowByte .mgmt 0x0003 = 0x0A ∧
    run.windowWord .host 0x000E = 0xFFFF ∧ run.windowByte .host 0x0102 = 2 ∧ run.windowDword .host 0x0104 = 1000 ∧
    run.windowByte .host 0x020F = 0x46 ∧ run.windowWord .host 0x0209 = 100 ∧ rising.windowByte .host 0x00C7 = 1 ∧
    rising.windowDword .host 0x00C0 = 0xFF010000 ∧ rising.windowWord .host 0x00C4 = 0x0704 ∧ run.windowByte .host 0x0920 = 0 := by
  decide +kernel

theorem test_transfers : (after (.registerPointerSet 0x0040) deep).pointer = 0x0040 ∧
    (after (.transferStop 3) (after (.registerPointerSet 0xFFFE) deep)).pointer = 1 ∧
    (after (.busTimeout 1) (after (.registerPointerSet 0x0040) deep)).transfer = false ∧
    (after (.registerPointerSet 0x0040) deep).takesByte .mgmt 0x0040 = true ∧
    (after (.registerWrite .mgmt 0x0010 7) deep).pointer = 0x0011 := by decide +kernel

/-- A frame by its header, in a live port, an inert one, and inside a frame. -/
theorem test_frames :
    let starts := fun (d : Byte) (s : State) => (after (.frameStart (some ⟨d, 0x0043⟩)) s).frame
    starts 0x00 deep = .write 0x0043 ∧ starts 0x80 deep = .turnaround 0x0043 ∧ starts 0x01 deep = .ignored ∧
      starts 0x00 State.reset = .ignored ∧ (after .frameStart deep).frame = .opened ∧ (after .frameStart State.reset).frame = .ignored ∧
      starts 0x00 { deep with frame := .opened } = .opened ∧ (after .frameEnd { deep with frame := .write 3 }).frame = .none ∧
      (let c := { set with policy := { set.policy with hostNode := 0 } }
       (({ deep with active := c } : State).hostLive, ({ run with active := c } : State).hostLive) = (false, true)) := by decide +kernel

/-- What a frame takes: a byte at its own address only, then one on; a read at the next forbidden byte only, also past the end. -/
theorem test_frame_bytes :
    let s := fun (f : Frame) => { deep with frame := f }
    (after (.causeAcknowledge .host true 0) deep).frame = .write 0x0044 ∧ (s (.write 0x0043)).takesByte .host 0x0044 = false ∧
      (after (.forbiddenRead .host 0x0400) deep).frame = .read 0x0401 ∧ (s (.turnaround 0xFFFF)).takesRead .host 0x0400 = true ∧
      (s (.read 0x0600)).takesRead .host 0x06A0 = true ∧ (s (.read 0x0600)).takesRead .host 0x06A1 = false ∧
      (s (.read 0x0401)).takesRead .host 0x0400 = false ∧ (s .opened).sdoHighZ = false ∧ deep.sdoHighZ = true ∧ (s .ignored).sdoHighZ = true ∧
      ({ State.reset with frame := .write 3 } : State).sdoHighZ = true ∧ deep.shiftedOut 0 3 = [0, 0xA7, 0x18, 0x01] := by decide +kernel

end Sys2Proof.Tests
end

/-! # A command in a quiet state

A state with nothing left to react to and no frame to abandon is its own reaction, and the writes of a port's command keep it so. -/

namespace Sys2Proof.Machine

/-! ### The reaction of a quiet state -/

theorem atRest_iff (s : State) : s.atRest = true ↔ s.still = true ∧ s.nextMove = none := by
  simp [State.atRest]

theorem react_of_atRest (k : Nat) {s : State} (h : s.atRest = true) : State.react k s = s := by
  obtain ⟨hstill, hmove⟩ := (atRest_iff s).1 h
  cases k with
  | zero => rfl
  | succ k => simp [State.react, standstill_of_still _ hstill, hmove]

theorem abandonFrame_of_live {s : State} (h : s.frame.taken = true → s.hostLive = true) : s.abandonFrame = s :=
  if_neg fun ⟨htaken, hinert⟩ => by simp [h htaken] at hinert

theorem finish_of_quiet {s : State} (h : s.quiet) : s.finish = s := by
  rw [State.finish, react_of_atRest _ h.1, abandonFrame_of_live h.2]

/-! ### A shorter queue -/

theorem nextRequest_eq_none_iff (s : State) : s.nextRequest = none ↔
    (s.plat.trip = false → ∀ r ∈ s.queue, r.kind ≠ .forced) ∧
      (s.plat.phase = .settled → s.allConform = true ∧ s.queue = []) := by
  have hforced : (if s.plat.trip then none else s.queue.find? fun e => e.kind == .forced) = none ↔
      (s.plat.trip = false → ∀ r ∈ s.queue, r.kind ≠ .forced) := by
    cases s.plat.trip <;> simp
  rw [← hforced, State.nextRequest]
  cases (if s.plat.trip then none else s.queue.find? fun e => e.kind == .forced) with
  | some r => simp
  | none => cases s.allConform <;> cases s.queue <;> simp

theorem nextMove_eq_none_iff (s : State) : s.nextMove = none ↔
    (s.plat.phase = .halted ∨ s.still = false) ∨
      s.downLegEnds = false ∧ s.settles = none ∧ s.nextRequest = none ∧ s.grantable = none := by
  by_cases hquiet : s.plat.phase = .halted ∨ s.still = false
  · simp [State.nextMove, hquiet]
  · cases hleg : s.downLegEnds with
    | true => simp [State.nextMove, hquiet, hleg]
    | false =>
      cases hset : s.settles with
      | some m => simp [State.nextMove, hquiet, hleg, hset]
      | none => cases hreq : s.nextRequest <;> simp [State.nextMove, hquiet, hleg, hset, hreq]

/-- Removing queued requests makes no move due: the queue gives a move only by a FORCED entry or by its head. -/
theorem nextMove_withQueue_filter {s : State} (keep : Request → Bool) (h : s.nextMove = none) :
    ({ s with queue := s.queue.filter keep } : State).nextMove = none := by
  rw [nextMove_eq_none_iff] at h ⊢
  refine h.imp id fun ⟨hleg, hset, hreq, hgrant⟩ => ⟨hleg, hset, ?_, hgrant⟩
  obtain ⟨hforced, hhead⟩ := (nextRequest_eq_none_iff s).1 hreq
  refine (nextRequest_eq_none_iff _).2 ⟨fun ht r hr => hforced ht r (List.mem_filter.1 hr).1, fun hp => ?_⟩
  obtain ⟨hconform, hempty⟩ := hhead hp
  exact ⟨hconform, by simp [hempty]⟩

theorem quiet_withQueue_filter {s : State} (keep : Request → Bool) (h : s.quiet) :
    ({ s with queue := s.queue.filter keep } : State).quiet := by
  obtain ⟨hrest, hframe⟩ := h
  obtain ⟨hstill, hmove⟩ := (atRest_iff s).1 hrest
  exact ⟨(atRest_iff _).2 ⟨hstill, nextMove_withQueue_filter keep hmove⟩, hframe⟩

/-! ### What a port's command keeps -/

@[simp] theorem arg_commanded (s : State) (p q : Port) (code : Byte) (i : Fin 16) :
    (s.commanded p code).arg q i = s.arg q i := by
  cases p <;> cases q <;> rfl

/-- The frame that took the command byte belongs to a live Host Port, so none is left to abandon. -/
theorem quiet_commanded {s : State} {p : Port} (code : Byte) (ht : s.takesCommand p) (h : s.quiet) :
    (s.commanded p code).quiet := by
  refine ⟨h.1, ?_⟩
  cases p with
  | host => exact fun _ => ((takesByte_host_iff s _).1 ht.1).1
  | mgmt => exact h.2

theorem quiet_finished {s : State} (p : Port) (r : Result) (d : Detail) (h : s.quiet) : (s.finished p r d).quiet := h

theorem quiet_withCompletions {s : State} (c : PerPort (List Completion)) (h : s.quiet) :
    ({ s with completions := c } : State).quiet := h

theorem quiet_answered {s : State} {p : Port} (code : Byte) (r : Result) (d : Detail) (ht : s.takesCommand p)
    (h : s.quiet) : (s.answered p code r d).quiet :=
  quiet_finished p r d (quiet_commanded code ht h)

end Sys2Proof.Machine

/-! # CANCEL and ACK_COMPLETION

What the two commands do to the request queue and to the completion queues (R85, R87, R89). -/

namespace Sys2Proof.Machine

/-! ### ACK_COMPLETION -/

theorem exec_ackCompletion_of_command {s t : State} {p : Port} (ht : s.takesCommand p)
    (h : (s.commanded p 0x03).ackCompletionCommand p = t) : exec (.ackCompletion p) s = .next t.finish :=
  h ▸ congrArg Host.Outcome.next (commandByte_of_takesCommand 0x03 _ ht)

theorem ackCompletionCommand_of_head_matches {s : State} {p : Port} {tag : Byte} {c : Completion}
    {rest : List Completion} (htag : s.arg p 0 = tag) (hq : s.completions.get p = c :: rest) (hc : c.tag = tag) :
    s.ackCompletionCommand p = State.finished { s with completions := s.completions.set p rest } p .ok noDetail := by
  simp [State.ackCompletionCommand, hq, htag, hc, reply_eq_finished]

theorem ackCompletionCommand_of_no_match {s : State} {p : Port} {tag : Byte} (htag : s.arg p 0 = tag)
    (h : ∀ c rest, s.completions.get p = c :: rest → c.tag ≠ tag) :
    s.ackCompletionCommand p = s.finished p .stale noDetail := by
  subst htag
  unfold State.ackCompletionCommand
  split
  · exact reply_eq_finished s p .stale
  · next c rest hq => rw [if_neg (h c rest hq), reply_eq_finished]

/-- Settles O33: by whether the head of the port's completion queue carries the tag. -/
theorem ackCompletionRemovesTheMatchingHead : Obligations.AckCompletionRemovesTheMatchingHead := by
  intro s p ht
  have harg : (s.commanded p 0x03).arg p 0 = s.arg p 0 := arg_commanded s p p 0x03 0
  refine ⟨fun c rest hq htag => ⟨?_, fun hs => ?_⟩, fun h => ⟨?_, fun hs => ?_⟩⟩
  · exact exec_ackCompletion_of_command ht (ackCompletionCommand_of_head_matches harg hq htag)
  · exact finish_of_quiet (quiet_finished p _ _ (quiet_withCompletions _ (quiet_commanded 0x03 ht hs)))
  · exact exec_ackCompletion_of_command ht (ackCompletionCommand_of_no_match harg h)
  · exact finish_of_quiet (quiet_answered 0x03 _ _ ht hs)

/-! ### CANCEL -/

theorem exec_cancel_of_command {s t : State} {p : Port} (ht : s.takesCommand p)
    (h : (s.commanded p 0x02).cancelCommand p = t) : exec (.cancel p) s = .next t.finish :=
  h ▸ congrArg Host.Outcome.next (commandByte_of_takesCommand 0x02 _ ht)

theorem isOf_iff (r : Request) (p : Port) (tag : Byte) :
    Request.isOf r p tag = true ↔ r.source = Port.source p ∧ r.tag = some tag := by
  simp [Request.isOf]

/-- A port's request ends with a record in that port's completion queue, under the request's tag (R87, R88). -/
theorem complete_of_isOf {s : State} {r : Request} {p : Port} {tag : Byte} (e : Ending)
    (h : Request.isOf r p tag = true) : s.complete r e = { s with
      completions := s.completions.set p (s.completions.get p ++ [⟨tag, e, s.plat.settled, s.plat.degraded⟩]) } := by
  obtain ⟨hsource, htag⟩ := (isOf_iff r p tag).1 h
  cases p <;> simp [State.complete, State.pushCompletion, hsource, htag, Port.source]

theorem cancelCommand_of_queued {s : State} {p : Port} {tag : Byte} (htag : s.arg p 0 = tag)
    (h : ∃ r ∈ s.queue, Request.isOf r p tag = true) :
    s.cancelCommand p = State.finished { s with
      queue := s.queue.filter fun r => !Request.isOf r p tag
      completions := s.completions.set p
        (s.completions.get p ++ [⟨tag, .cancelled, s.plat.settled, s.plat.degraded⟩]) } p .ok noDetail := by
  subst htag
  obtain ⟨r, hfound⟩ := Option.isSome_iff_exists.1 (List.find?_isSome.2 h)
  have hmine : Request.isOf r p (s.arg p 0) = true := by simpa using List.find?_some hfound
  simp only [State.cancelCommand, hfound, complete_of_isOf _ hmine, reply_eq_finished]

theorem cancelCommand_of_inFlight {s : State} {p : Port} {tag : Byte} (htag : s.arg p 0 = tag)
    (hq : ∀ r ∈ s.queue, Request.isOf r p tag = false)
    (hf : ∃ r, s.plat.inFlight = some r ∧ Request.isOf r p tag = true) :
    s.cancelCommand p = s.finished p .inFlight noDetail := by
  subst htag
  obtain ⟨r, hr, hmine⟩ := hf
  have hnone : (s.queue.find? fun r => Request.isOf r p (s.arg p 0)) = none := by simpa using hq
  simp [State.cancelCommand, hnone, hr, hmine, reply_eq_finished]

theorem cancelCommand_of_absent {s : State} {p : Port} {tag : Byte} (htag : s.arg p 0 = tag)
    (hq : ∀ r ∈ s.queue, Request.isOf r p tag = false)
    (hf : ∀ r, s.plat.inFlight = some r → Request.isOf r p tag = false) :
    s.cancelCommand p = s.finished p .stale noDetail := by
  subst htag
  have hnone : (s.queue.find? fun r => Request.isOf r p (s.arg p 0)) = none := by simpa using hq
  have hany : (s.plat.inFlight.any fun r => Request.isOf r p (s.arg p 0)) = false := by
    simpa [← Bool.not_eq_true, Option.any_eq_true] using hf
  simp [State.cancelCommand, hnone, hany, reply_eq_finished]

/-- Settles O32: by where the port's request with the tag stands, in the queue, in flight, or nowhere. -/
theorem cancelRemovesOnlyAQueuedRequest : Obligations.CancelRemovesOnlyAQueuedRequest := by
  intro s p ht
  have harg : (s.commanded p 0x02).arg p 0 = s.arg p 0 := arg_commanded s p p 0x02 0
  refine ⟨fun hq => ⟨?_, fun hs => ?_⟩, fun hq hf => ⟨?_, fun hs => ?_⟩, fun hq hf => ⟨?_, fun hs => ?_⟩⟩
  · exact exec_cancel_of_command ht (cancelCommand_of_queued harg hq)
  · exact finish_of_quiet (quiet_finished p _ _ (quiet_withCompletions _
      (quiet_withQueue_filter _ (quiet_commanded 0x02 ht hs))))
  · exact exec_cancel_of_command ht (cancelCommand_of_inFlight harg hq hf)
  · exact finish_of_quiet (quiet_answered 0x02 _ _ ht hs)
  · exact exec_cancel_of_command ht (cancelCommand_of_absent harg hq hf)
  · exact finish_of_quiet (quiet_answered 0x02 _ _ ht hs)

end Sys2Proof.Machine

/-! # ACK_FAULT

What the command does to the fault log and its overflow flag (R118). -/

namespace Sys2Proof.Machine

@[simp] theorem argSeq_commanded (s : State) (p q : Port) (code : Byte) :
    (s.commanded p code).argSeq q = s.argSeq q := by
  simp [State.argSeq]

/-- No rule of the joint reaction reads the fault unit. -/
theorem quiet_withFaults {s : State} (u : FaultUnit) (h : s.quiet) : ({ s with faults := u } : State).quiet := h

theorem exec_ackFault_of_command {s t : State} {p : Port} (ht : s.takesCommand p)
    (h : (s.commanded p 0x04).ackFaultCommand p = t) : exec (.ackFault p) s = .next t.finish :=
  h ▸ congrArg Host.Outcome.next (commandByte_of_takesCommand 0x04 _ ht)

/-- The overflow flag outlives an acknowledgement exactly while a record remains. -/
theorem overflow_and_remains (overflow : Bool) (rest : List FaultRecord) :
    (overflow && !rest.isEmpty) = if rest = [] then false else overflow := by
  cases rest <;> simp

theorem ackFaultCommand_of_head_matches {s : State} {p : Port} {seq : Word} {f : FaultRecord} {rest : List FaultRecord}
    (hseq : s.argSeq p = seq) (hlog : s.faults.log = f :: rest) (hf : f.seq = seq) :
    s.ackFaultCommand p = State.finished { s with faults := { s.faults with
      log := rest, overflow := if rest = [] then false else s.faults.overflow } } p .ok noDetail := by
  simp only [State.ackFaultCommand, hlog, hseq, hf, if_true, overflow_and_remains, reply_eq_finished]

theorem ackFaultCommand_of_no_match {s : State} {p : Port} {seq : Word} (hseq : s.argSeq p = seq)
    (h : ∀ f rest, s.faults.log = f :: rest → f.seq ≠ seq) :
    s.ackFaultCommand p = s.finished p .stale noDetail := by
  subst hseq
  unfold State.ackFaultCommand
  split
  · exact reply_eq_finished s p .stale
  · next f rest hlog => rw [if_neg (h f rest hlog), reply_eq_finished]

/-- Settles O34: by whether the head of the fault log carries the number. -/
theorem ackFaultRemovesTheMatchingHead : Obligations.AckFaultRemovesTheMatchingHead := by
  intro s p ht
  have hseq : (s.commanded p 0x04).argSeq p = s.arg p 1 ++ s.arg p 0 := argSeq_commanded s p p 0x04
  refine ⟨fun f rest hlog hf => ⟨?_, fun hs => ?_⟩, fun h => ⟨?_, fun hs => ?_⟩⟩
  · exact exec_ackFault_of_command ht (ackFaultCommand_of_head_matches hseq hlog hf)
  · exact finish_of_quiet (quiet_finished p _ _ (quiet_withFaults _ (quiet_commanded 0x04 ht hs)))
  · exact exec_ackFault_of_command ht (ackFaultCommand_of_no_match hseq h)
  · exact finish_of_quiet (quiet_answered 0x04 _ _ ht hs)

end Sys2Proof.Machine

/-! # The rules of the node operations

Each operation on one node, as the live record, the budget in use and the ready queue that it leaves (R21 to R37, R44 to R47). -/

namespace Sys2Proof.Machine

/-! ### One node's part of the state -/

/-- `s` with one node's live record, the budget in use and the ready queue replaced: all that an operation on one node may write. -/
def State.withNode (s : State) (n : NodeId) (l : NodeLive) (b : Nat) (r : List ReadyEntry) : State :=
  { s.setNode n l with budgetInUse := b, ready := r }

@[simp] theorem withNode_budgetInUse (s : State) (n : NodeId) (l : NodeLive) (b : Nat) (r : List ReadyEntry) :
    (s.withNode n l b r).budgetInUse = b := rfl

@[simp] theorem withNode_ready (s : State) (n : NodeId) (l : NodeLive) (b : Nat) (r : List ReadyEntry) :
    (s.withNode n l b r).ready = r := rfl

@[simp] theorem withNode_active (s : State) (n : NodeId) (l : NodeLive) (b : Nat) (r : List ReadyEntry) :
    (s.withNode n l b r).active = s.active := rfl

@[simp] theorem withNode_record (s : State) (n m : NodeId) (l : NodeLive) (b : Nat) (r : List ReadyEntry) :
    (s.withNode n l b r).record m = s.record m := rfl

@[simp] theorem withNode_plat (s : State) (n : NodeId) (l : NodeLive) (b : Nat) (r : List ReadyEntry) :
    (s.withNode n l b r).plat = s.plat := rfl

@[simp] theorem withNode_modeNow (s : State) (n m : NodeId) (l : NodeLive) (b : Nat) (r : List ReadyEntry) :
    (s.withNode n l b r).modeNow m = s.modeNow m := rfl

@[simp] theorem withNode_node_self (s : State) (n : NodeId) (l : NodeLive) (b : Nat) (r : List ReadyEntry) :
    (s.withNode n l b r).node n = l :=
  node_setNode_self s n l

theorem withNode_node_of_ne (s : State) {m n : NodeId} (l : NodeLive) (b : Nat) (r : List ReadyEntry) (h : m ≠ n) :
    (s.withNode n l b r).node m = s.node m :=
  node_setNode_of_ne s l h

@[simp] theorem setNode_node_same (s : State) (n : NodeId) : s.setNode n (s.node n) = s := by
  simp [State.setNode, State.node]

@[simp] theorem setNode_setNode (s : State) (n : NodeId) (l m : NodeLive) :
    (s.setNode n l).setNode n m = s.setNode n m := by
  simp [State.setNode]

@[simp] theorem setNode_withNode (s : State) (n : NodeId) (l m : NodeLive) (b : Nat) (r : List ReadyEntry) :
    (s.withNode n l b r).setNode n m = s.withNode n m b r := by
  simp [State.withNode, State.setNode]

@[simp] theorem withNode_withNode (s : State) (n : NodeId) (l m : NodeLive) (b c : Nat) (r q : List ReadyEntry) :
    (s.withNode n l b r).withNode n m c q = s.withNode n m c q := by
  simp [State.withNode, State.setNode]

@[simp] theorem leaveReady_withNode (s : State) (n m : NodeId) (l : NodeLive) (b : Nat) (r : List ReadyEntry) :
    (s.withNode n l b r).leaveReady m = s.withNode n l b (r.filter fun e => e.node != m) := rfl

theorem setNode_eq_withNode (s : State) (n : NodeId) (l : NodeLive) :
    s.setNode n l = s.withNode n l s.budgetInUse s.ready := rfl

theorem withNode_onlyNode (s : State) (n : NodeId) (l : NodeLive) (b : Nat) (r : List ReadyEntry) :
    s.onlyNode (s.withNode n l b r) n :=
  ⟨rfl, fun _ h => withNode_node_of_ne s l b r h⟩

/-! ### The records a node comes to have -/

@[simp] theorem stopTimers_state (l : NodeLive) : l.stopTimers.state = l.state := rfl

@[simp] theorem stopTimers_charge (l : NodeLive) : l.stopTimers.charge = l.charge := rfl

theorem goTo_of_ne {l : NodeLive} {st : NodeState} (h : l.state ≠ st) :
    l.goTo st = { l with state := st, noted := false } := by
  simp [NodeLive.goTo, h]

theorem goTo_stopTimers_of_ne {l : NodeLive} {st : NodeState} (h : l.state ≠ st) :
    l.stopTimers.goTo st = { l with state := st, rise := none, hold := none, fall := none, noted := false } := by
  simp [NodeLive.goTo, NodeLive.stopTimers, h]

theorem nodeState_eq (s : State) (n : NodeId) : s.nodeState n = (s.node n).state := rfl

/-- The budget in use once the charge of `n` is released (R47). -/
def State.budgetWithout (s : State) (n : NodeId) : Nat := s.budgetInUse - (s.node n).charge.getD 0

theorem release_eq (s : State) (n : NodeId) :
    s.release n = s.withNode n { s.node n with charge := none } (s.budgetWithout n) s.ready := by
  unfold State.release State.budgetWithout
  split
  · next h =>
    have hsame : ({ s.node n with charge := none } : NodeLive) = s.node n := by rw [← h]
    simp [State.withNode, hsame, h]
  · next w h => simp [State.withNode, h]

/-- The live record of a node that rests in the state given, with no timer and no charge. -/
def NodeLive.settledIn (l : NodeLive) (st : NodeState) : NodeLive :=
  { l with state := st, rise := none, hold := none, fall := none, charge := none, mode := none, noted := false }

theorem toOff_eq {s : State} {n : NodeId} (h : s.nodeState n ≠ .off) :
    s.toOff n = s.withNode n ((s.node n).settledIn .off) (s.budgetWithout n) (s.ready.filter fun x => x.node != n) := by
  have hne : ({ s.node n with charge := none } : NodeLive).state ≠ .off := h
  simp [State.toOff, release_eq, goTo_stopTimers_of_ne hne, NodeLive.settledIn]

theorem fail_eq {s : State} {n : NodeId} (h : s.nodeState n ≠ .failed) :
    s.fail n = s.withNode n ((s.node n).settledIn .failed) (s.budgetWithout n) (s.ready.filter fun x => x.node != n) := by
  have hne : ({ s.node n with charge := none } : NodeLive).state ≠ .failed := h
  simp [State.fail, release_eq, goTo_stopTimers_of_ne hne, NodeLive.settledIn]

theorem becomeOn_eq {s : State} {n : NodeId} (h : s.nodeState n ≠ .on) :
    s.becomeOn n = s.withNode n { (s.node n).settledIn .on with retry := 0 } (s.budgetWithout n) s.ready := by
  have hne : ({ s.node n with charge := none } : NodeLive).state ≠ .on := h
  simp [State.becomeOn, release_eq, goTo_stopTimers_of_ne hne, NodeLive.settledIn]

theorem droppedRecord_of_rail {s : State} {n : NodeId} (h : isGate n = false) :
    s.droppedRecord n = { s.node n with
      state := .draining, rise := none, hold := none, fall := some (s.record n).fallTime.toNat, charge := none
      mode := some (s.modeNow n), noted := false } := by
  cases htimed : (s.record n).timed <;> simp [State.droppedRecord, State.modeNow, NodeRecord.senses, h, htimed]

theorem droppedRecord_of_gate {s : State} {n : NodeId} (h : isGate n = true) :
    s.droppedRecord n = (s.node n).settledIn .off := by
  simp [State.droppedRecord, NodeLive.settledIn, h]

/-- The ready queue once `n` has left an energized state (R33, R44). -/
def State.readyAfterDrop (s : State) (n : NodeId) : List ReadyEntry :=
  if isGate n then s.ready.filter (fun x => x.node != n) else s.ready

theorem drop_eq {s : State} {n : NodeId} (h : (s.nodeState n).energized = true) :
    s.drop n = s.withNode n (s.droppedRecord n) (s.budgetWithout n) (s.readyAfterDrop n) := by
  have hoff : s.nodeState n ≠ .off := by rintro e; simp [e, NodeState.energized] at h
  have hdrain : ({ s.node n with charge := none } : NodeLive).state ≠ .draining := by
    intro e; rw [nodeState_eq, e] at h; cases h
  unfold State.drop State.readyAfterDrop
  split
  · next hg => rw [toOff_eq hoff, droppedRecord_of_gate hg]
  · next hg =>
    simp only [Bool.not_eq_true] at hg
    simp [release_eq, goTo_stopTimers_of_ne hdrain, droppedRecord_of_rail hg]

/-- The live record with its hold running (R26). -/
def NodeLive.holding (l : NodeLive) (t : Nat) : NodeLive :=
  { l with state := .settling, rise := none, hold := some t, fall := none, mode := none, noted := false }

theorem enterSettling_eq_of_hold {s : State} {n : NodeId} (h : s.nodeState n ≠ .settling)
    (ht : (s.record n).settleHold ≠ 0) :
    s.enterSettling n =
      s.withNode n ((s.node n).holding (s.record n).settleHold.toNat) s.budgetInUse s.ready := by
  have ht' : (s.record n).settleHold.toNat ≠ 0 := fun e => ht (BitVec.eq_of_toNat_eq e)
  simp [State.enterSettling, goTo_stopTimers_of_ne h, NodeLive.holding, setNode_eq_withNode, ht']

theorem enterSettling_eq_of_no_hold {s : State} {n : NodeId} (h : s.nodeState n ≠ .settling)
    (ht : (s.record n).settleHold = 0) :
    s.enterSettling n = s.withNode n { (s.node n).settledIn .on with retry := 0 } (s.budgetWithout n) s.ready := by
  have hne : (s.setNode n { (s.node n).holding 0 with mode := none }).nodeState n ≠ .on := by
    simp [State.nodeState, NodeLive.holding]
  have heq : s.enterSettling n = (s.setNode n { (s.node n).holding 0 with mode := none }).becomeOn n := by
    simp [State.enterSettling, goTo_stopTimers_of_ne h, NodeLive.holding, ht]
  rw [heq, becomeOn_eq hne]
  simp [NodeLive.holding, NodeLive.settledIn, setNode_eq_withNode, State.budgetWithout]

theorem place_eq {s : State} {n : NodeId} {st : NodeState} (h : s.nodeState n ≠ st) :
    s.place n st = s.withNode n { s.node n with state := st, noted := false } s.budgetInUse
      (if st = .ready then insertReady ⟨n, (s.record n).priority.toNat⟩ (s.ready.filter fun x => x.node != n)
        else s.ready.filter fun x => x.node != n) := by
  have hgo := goTo_of_ne (l := s.node n) h
  unfold State.place
  rw [if_neg h]
  dsimp only
  rw [hgo]
  split <;> rfl

/-! ### The same rules in the words of the statements -/

theorem turnedOn_of_eq {s : State} {n : NodeId} :
    s.turnedOn (s.withNode n { (s.node n).settledIn .on with retry := 0 } (s.budgetWithout n) s.ready) n :=
  ⟨withNode_onlyNode s n _ _ _, rfl, rfl, by simp [NodeLive.settledIn]⟩

theorem becomeOn_turnedOn {s : State} {n : NodeId} (h : s.nodeState n ≠ .on) : s.turnedOn (s.becomeOn n) n :=
  becomeOn_eq h ▸ turnedOn_of_eq

theorem enterSettling_riseEnded {s : State} {n : NodeId} (h : s.nodeState n ≠ .settling) :
    s.riseEnded (s.enterSettling n) n := by
  unfold State.riseEnded
  split
  · next ht => exact enterSettling_eq_of_no_hold h ht ▸ turnedOn_of_eq
  · next ht =>
    rw [enterSettling_eq_of_hold h ht]
    exact ⟨withNode_onlyNode s n _ _ _, rfl, rfl, by simp [NodeLive.holding]⟩

theorem toOff_turnedOff {s : State} {n : NodeId} (h : s.nodeState n ≠ .off) : s.turnedOff (s.toOff n) n := by
  rw [toOff_eq h]
  exact ⟨withNode_onlyNode s n _ _ _, rfl, rfl, by simp [NodeLive.settledIn]⟩

theorem drop_dropped {s : State} {n : NodeId} (h : (s.nodeState n).energized = true) : s.dropped (s.drop n) n := by
  rw [drop_eq h]
  exact ⟨withNode_onlyNode s n _ _ _, rfl, by simp, rfl⟩

theorem place_placed {s : State} {n : NodeId} {st : NodeState} (h : s.nodeState n ≠ st) :
    s.placed (s.place n st) n st := by
  rw [place_eq h]
  exact ⟨withNode_onlyNode s n _ _ _, rfl, by simp, rfl⟩

end Sys2Proof.Machine

/-! # The rules of the engine's operations

Completions, takes, arrivals, legs and settles, each as the state that it leaves (R55 to R73, R80 to R88, R95, R141, R147, R148). -/

namespace Sys2Proof.Machine

/-! ### Completions -/

/-- A request ends as lost when another has displaced it or a fault has aborted it (R148). -/
def Ending.loses (e : Ending) : Prop := e = .superseded ∨ e = .abortedByFault

theorem recordsAt_append (L : Level) (d : Bool) (a b : List Request) (e : Ending) (p : Port) :
    recordsAt L d (a ++ b) e p = recordsAt L d a e p ++ recordsAt L d b e p := by
  simp [recordsAt]

theorem complete_completions (s : State) (r : Request) (e : Ending) :
    (s.complete r e).completions = s.ended [r] e := by
  unfold State.complete
  cases hsource : r.source <;>
    simp [hsource, State.pushCompletion, State.watchCompletion, State.ended, State.endedAt, recordsAt, PerPort.set,
      PerPort.get, Port.source, apply_ite State.completions]

theorem complete_eq (s : State) (r : Request) (e : Ending) :
    s.complete r e = { s with completions := s.ended [r] e, monitor := (s.complete r e).monitor } := by
  rw [← complete_completions]
  unfold State.complete State.watchCompletion
  split <;> first | rfl | (split <;> rfl)

theorem afterLoss_nil (m : Monitor) : m.afterLoss [] = m := by simp [Monitor.afterLoss]

theorem afterLoss_append (m : Monitor) (a b : List Request) : (m.afterLoss a).afterLoss b = m.afterLoss (a ++ b) := by
  by_cases hm : m.state = .recovering
  · cases ha : a.any fun r => r.source == .watch <;> simp [Monitor.afterLoss, hm, ha]
  · simp [Monitor.afterLoss, hm]

theorem complete_monitor_of_loses (s : State) (r : Request) {e : Ending} (he : e.loses) :
    (s.complete r e).monitor = s.monitor.afterLoss [r] := by
  have he' : e = .superseded ∨ e = .abortedByFault := he
  unfold State.complete
  cases hsource : r.source <;>
    simp [hsource, State.pushCompletion, State.watchCompletion, Monitor.afterLoss, he', apply_ite State.monitor]

theorem complete_monitor_of_keeps (s : State) (r : Request) {e : Ending} (he : ¬e.loses) :
    (s.complete r e).monitor = s.monitor := by
  have he' : ¬(e = .superseded ∨ e = .abortedByFault) := he
  unfold State.complete
  cases hsource : r.source <;> simp [State.pushCompletion, State.watchCompletion, he']

/-- The state after these requests have been lost, in this order. -/
def State.losing (s : State) (rs : List Request) (e : Ending) : State :=
  { s with completions := s.ended rs e, monitor := s.monitor.afterLoss rs }

theorem complete_of_loses (s : State) (r : Request) {e : Ending} (he : e.loses) : s.complete r e = s.losing [r] e := by
  rw [complete_eq, complete_monitor_of_loses s r he]; rfl

theorem complete_of_keeps (s : State) (r : Request) {e : Ending} (he : ¬e.loses) :
    s.complete r e = { s with completions := s.ended [r] e } := by
  rw [complete_eq, complete_monitor_of_keeps s r he]

theorem losing_nil (s : State) (e : Ending) : s.losing [] e = s := by
  simp [State.losing, State.ended, State.endedAt, recordsAt, afterLoss_nil]

theorem losing_losing (s : State) (a b : List Request) (e : Ending) :
    (s.losing a e).losing b e = s.losing (a ++ b) e := by
  simp [State.losing, State.ended, State.endedAt, recordsAt_append, afterLoss_append]

theorem foldl_complete_of_loses (rs : List Request) (s : State) {e : Ending} (he : e.loses) :
    rs.foldl (fun t r => t.complete r e) s = s.losing rs e := by
  induction rs generalizing s with
  | nil => exact (losing_nil s e).symm
  | cons r rs ih => rw [List.foldl_cons, complete_of_loses s r he, ih, losing_losing]; rfl

theorem flushQueue_eq (s : State) : s.flushQueue = { s.losing s.queue .abortedByFault with queue := [] } := by
  unfold State.flushQueue
  rw [foldl_complete_of_loses _ _ (.inr rfl)]

/-- The platform record with no request in flight. -/
def Platform.unloaded (p : Platform) : Platform := { p with inFlight := none }

theorem completeInFlight_of_loses (s : State) {e : Ending} (he : e.loses) :
    s.completeInFlight e = { s.losing s.plat.inFlight.toList e with plat := s.plat.unloaded } := by
  unfold State.completeInFlight
  split
  · next h =>
    have hsame : s.plat.unloaded = s.plat := by rw [Platform.unloaded, ← h]
    rw [h, hsame, Option.toList_none, losing_nil]
  · next r h => rw [h, complete_of_loses s r he]; rfl

theorem completeInFlight_of_keeps (s : State) {e : Ending} (he : ¬e.loses) :
    s.completeInFlight e = { s with completions := s.ended s.plat.inFlight.toList e, plat := s.plat.unloaded } := by
  unfold State.completeInFlight
  split
  · next h =>
    have hsame : s.plat.unloaded = s.plat := by rw [Platform.unloaded, ← h]
    simp [h, hsame, State.ended, State.endedAt, recordsAt]
  · next r h => rw [h, complete_of_keeps s r he]; rfl

theorem supersedeQueued_eq (s : State) (src : Source) :
    s.supersedeQueued src = s.losing (s.queue.find? fun q => q.source == src).toList .superseded := by
  unfold State.supersedeQueued
  split
  · next r h => rw [h, complete_of_loses s r (.inl rfl)]; rfl
  · next h => rw [h, Option.toList_none, losing_nil]

/-! ### Starts -/

theorem rank_lt_iff_below (a b : Level) : a.below b = true ↔ a.rank < b.rank := by simp [Level.below]

theorem below_run_iff (L : Level) : L.below .run = true ↔ L ≠ .run := by cases L <;> decide

theorem effectiveVia_eq (r : Request) (p : Platform) : r.effectiveVia p = r.viaTaken p := by
  unfold Request.effectiveVia Request.viaTaken
  cases r.via <;> simp [Level.below, Option.filter]

theorem effectiveRecycle_eq (r : Request) (p : Platform) : r.effectiveRecycle p = r.recycleTaken p := by
  unfold Request.effectiveRecycle Request.recycleTaken
  rw [effectiveVia_eq]
  cases p.settled <;> rfl

/-- The phase a transition without a recycle is in: by its governing level against the settled level (R52). -/
theorem phaseLabel_eq (g s : Level) : phaseLabel g s = if g.rank < s.rank then .falling else .rising := by
  simp [phaseLabel, Level.below]

theorem reportStart_eq (s : State) (src : Option Source) (recycles : Bool) :
    s.reportStart src recycles = { s with monitor :=
      if (s.plat.target.getD s.plat.settled) ≠ .run ∨ (src ≠ some .watch ∧ (s.plat.via.isSome ∨ recycles)) then
        s.monitor.afterLeaving else s.monitor } := by
  have hleaves : ((s.plat.target.getD s.plat.settled).below .run || (s.plat.via.isSome && src != some .watch) ||
      (recycles && src != some .watch)) = true ↔
      (s.plat.target.getD s.plat.settled) ≠ .run ∨ (src ≠ some .watch ∧ (s.plat.via.isSome ∨ recycles)) := by
    simp only [Bool.or_eq_true, Bool.and_eq_true, below_run_iff, bne_iff_ne]
    tauto
  unfold State.reportStart
  dsimp only
  simp only [← hleaves]
  cases ((s.plat.target.getD s.plat.settled).below .run || (s.plat.via.isSome && src != some .watch) ||
      (recycles && src != some .watch)) <;> cases hm : s.monitor.state <;> simp [Monitor.afterLeaving, hm]

theorem take_eq_startedFor {s : State} {r : Request} (h : ¬(r.kind = .normal ∧ r.needsNoMove s.plat = true)) :
    s.take r = s.startedFor r := by
  unfold State.take
  rw [if_neg h]
  dsimp only
  rw [reportStart_eq, effectiveVia_eq, effectiveRecycle_eq]
  simp only [State.startTransition, Platform.labelled, State.startedFor, phaseLabel_eq]
  congr 1
  · cases r.recycleTaken s.plat <;> cases r.viaTaken s.plat <;> simp
  · exact if_congr (by simp) rfl rfl

theorem take_eq_noChange {s : State} {r : Request} (h : r.kind = .normal ∧ r.needsNoMove s.plat = true) :
    s.take r = { s with completions := s.ended [r] .noChange } := by
  unfold State.take
  rw [if_pos h, complete_of_keeps _ _ (by simp [Ending.loses])]

theorem needsNoMove_iff (r : Request) (p : Platform) : r.needsNoMove p = true ↔
    p.phase = .settled ∧ r.target = p.settled ∧ r.viaTaken p = none ∧ r.recycleTaken p = false := by
  simp [Request.needsNoMove, effectiveVia_eq, effectiveRecycle_eq, and_assoc]

theorem take_eq_takenInSettled {s : State} (r : Request) (h : s.plat.phase = .settled) :
    s.take r = s.takenInSettled r := by
  unfold State.takenInSettled
  split
  · next hn => exact take_eq_noChange ⟨hn.1, (needsNoMove_iff _ _).2 ⟨h, hn.2⟩⟩
  · next hn => exact take_eq_startedFor fun k => hn ⟨k.1, ((needsNoMove_iff _ _).1 k.2).2⟩

theorem take_of_forced {s : State} {r : Request} (h : r.kind = .forced) : s.take r = s.startedFor r :=
  take_eq_startedFor fun k => by simp [h] at k

theorem takeForced_eq {s : State} {r : Request} (h : r.kind = .forced) : s.takeForced r = s.overtakenBy r := by
  unfold State.takeForced
  dsimp only
  rw [completeInFlight_of_loses s (.inl rfl), supersedeQueued_eq, take_of_forced h]
  have hlost : ({ s.losing s.plat.inFlight.toList .superseded with plat := s.plat.unloaded } : State).losing
      (s.queue.find? fun q => q.source == r.source).toList .superseded =
      { s.losing (s.plat.inFlight.toList ++ (s.queue.find? fun q => q.source == r.source).toList) .superseded with
        plat := s.plat.unloaded } := by
    rw [← losing_losing]; rfl
  change State.startedFor { (({ s.losing s.plat.inFlight.toList .superseded with plat := s.plat.unloaded } : State).losing
    (s.queue.find? fun q => q.source == r.source).toList .superseded) with queue := _ } r = _
  rw [hlost]
  rfl

theorem startRepair_eq (s : State) : s.startRepair = s.repairing := by
  simp [State.startRepair, State.startTransition, Platform.labelled, State.repairing, phaseLabel_eq]

/-! ### Arrivals -/

theorem restartIdle_eq (s : State) : s.restartIdle = { s with idle := s.idle.map fun _ => s.active.policy.autoDeepMs } := by
  unfold State.restartIdle
  split
  · next h =>
    obtain ⟨left, hleft⟩ := Option.isSome_iff_exists.1 h
    rw [hleft]; rfl
  · next h =>
    have hsame : (s.idle.map fun _ => s.active.policy.autoDeepMs) = s.idle := by
      rw [Option.not_isSome_iff_eq_none.1 h]; rfl
    rw [hsame]

theorem arrive_of_halted {s : State} (r : Request) (h : s.plat.phase = .halted) : s.arrive r = s := by
  simp [State.arrive, h]

/-- Settles O31: by the phase, the kind of the request, and what the queue holds of its source. -/
theorem arrivalsJoinReplaceMergeOrOvertake : Obligations.ArrivalsJoinReplaceMergeOrOvertake := by
  intro s r
  refine ⟨arrive_of_halted r, fun hp hk hold => ?_, fun hp hk hwake q hold hrank => ?_, fun hp hk q hold hrank => ?_,
    fun hp hk ht => ?_, fun hp hk ht => ?_⟩
  all_goals rw [State.arrive, if_neg hp, restartIdle_eq]; simp only [hk]
  · simp only [State.enqueueNormal, hold]
  · simp only [State.enqueueNormal, hold, if_pos (And.intro hwake hrank)]
  · have hnot : ¬(r.source = .wake ∧ r.target.rank ≤ q.target.rank) := fun h =>
      Nat.not_lt.2 h.2 (hrank h.1)
    simp only [State.enqueueNormal, hold, if_neg hnot, complete_of_loses _ _ (.inl rfl), beq_iff_eq]
    rfl
  · simp only [ht, if_true, State.enqueueForced, supersedeQueued_eq]
    rfl
  · simp only [ht, Bool.false_eq_true, if_false, takeForced_eq hk]
    rfl

/-! ### Legs and settles -/

theorem clearFailuresAtDeep_clearRetries_nodes (s : State) :
    s.clearFailuresAtDeep.clearRetries = { s with nodes := s.nodesSettled s.plat.settled } := by
  unfold State.clearFailuresAtDeep
  split
  · next h =>
    simp only [State.clearFailures, State.clearRetries, State.nodesSettled, Vector.map_map, h, true_and]
    congr 2
    funext l
    by_cases hl : l.state = .failed <;> simp [NodeLive.clearFailed, NodeLive.goTo, hl]
  · next h => simp [State.clearRetries, State.nodesSettled, h]

theorem clearRetries_clearFailuresAtDeep_nodes (s : State) :
    s.clearRetries.clearFailuresAtDeep = { s with nodes := s.nodesSettled s.plat.settled } := by
  unfold State.clearFailuresAtDeep
  have hplat : s.clearRetries.plat = s.plat := rfl
  rw [hplat]
  split
  · next h =>
    simp only [State.clearFailures, State.clearRetries, State.nodesSettled, Vector.map_map, h, true_and]
    congr 2
    funext l
    by_cases hl : l.state = .failed <;> simp [NodeLive.clearFailed, NodeLive.goTo, hl]
  · next h => simp [State.clearRetries, State.nodesSettled, h]

theorem viaSettle_eq (s : State) (v : Level) : s.viaSettle v = s.viaSettledAt v := by
  unfold State.viaSettle State.viaSettledAt
  dsimp only
  rw [show ∀ t : State, (t.retainLevel v).clearRetries.clearFailuresAtDeep =
      { t.retainLevel v with nodes := t.nodesSettled t.plat.settled } from
    fun t => clearRetries_clearFailuresAtDeep_nodes _]
  simp only [Platform.labelled, phaseLabel_eq, State.retainLevel, State.nodesSettled]
  cases s.plat.inFlight <;> cases s.plat.recycle <;> simp [apply_ite]
  all_goals split <;> simp_all

theorem startIdle_eq (s : State) : s.startIdle = { s with idle :=
    (if s.plat.phase = .settled ∧ s.plat.settled = .standby ∧ s.active.policy.autoDeepDelay ≠ 0 ∧ s.idle = none then
      some s.active.policy.autoDeepMs
    else s.idle) } := by
  unfold State.startIdle
  simp only [Option.isNone_iff_eq_none]
  split <;> rfl

theorem reportRun_eq (s : State) : s.reportRun = { s with monitor := s.monitorAtRun } := by
  unfold State.reportRun State.monitorAtRun
  cases hplan : s.active.plan.active <;> cases hm : s.monitor.state <;> simp [Stage.deadlineMs]

theorem raiseBoth_eq (s : State) (c : Cause) :
    s.raiseBoth c = { s with causes := ⟨s.causes.host ||| c.word, s.causes.mgmt ||| c.word⟩ } := rfl

theorem settle_eq (s : State) (target : Level) : s.settle target = s.settledAt target := by
  unfold State.settle State.settledAt
  dsimp only
  rw [clearFailuresAtDeep_clearRetries_nodes, completeInFlight_of_keeps _ (by simp [Ending.loses]), startIdle_eq,
    reportRun_eq, raiseBoth_eq]
  have hcarried : (s.plat.inFlight.isSome = true ∧ target = .run) = (s.plat.inFlight ≠ none ∧ target = .run) := by
    rw [Option.isSome_iff_ne_none]
  simp only [hcarried, State.retainLevel, State.nodesSettled, State.ended, Platform.unloaded]
  split
  · next h => simp [h, Cause.word, Cause.bit, State.endedAt]; rfl
  · simp [Cause.word, Cause.bit, State.endedAt]

end Sys2Proof.Machine

/-! # The joint reaction

What it leaves, the nodes' own rules, and what each move of it does (R21, R22, R30, R31, R45, R54, R57, R64, R71, R72, R83, R174). -/

namespace Sys2Proof.Machine

/-! ### What the reaction leaves -/

theorem applyMove_outside (s : State) (m : Move) : (s.applyMove m).outside = s.outside := by
  cases m with
  | startHold => exact startHold_outside s
  | viaSettle v => exact viaSettle_outside s v
  | settle t => exact settle_outside s t
  | handForced r => exact takeForced_outside _ r
  | repair => exact startRepair_outside s
  | takeHead r => exact take_outside _ r
  | grant n => exact outside_of_sameButNodes (grant_sameButNodes s n)

theorem standstill_outside (k : Nat) (s : State) : (State.standstill k s).outside = s.outside :=
  outside_of_sameButNodes (standstill_sameButNodes k s)

theorem react_outside (k : Nat) (s : State) : (State.react k s).outside = s.outside := by
  induction k generalizing s with
  | zero => rfl
  | succ k ih =>
    unfold State.react
    dsimp only
    split
    · exact standstill_outside _ s
    · next m _ => exact (ih _).trans ((applyMove_outside _ m).trans (standstill_outside _ s))

theorem abandonFrame_outside (s : State) : s.abandonFrame.outside = s.outside := by
  unfold State.abandonFrame
  split <;> rfl

theorem finish_outside (s : State) : s.finish.outside = s.outside :=
  (abandonFrame_outside _).trans (react_outside _ s)

/-- Settles O4: every move of the reaction, and the abandoned frame, stay within what the statement blanks. -/
theorem reactionTouchesOnlySequencing : Obligations.ReactionTouchesOnlySequencing := finish_outside

/-! ### Conditions as propositions -/

theorem excludes_iff (p : Platform) (n : NodeId) :
    p.excludes n = true ↔ (p.recycle = some .down ∨ p.recycle = some .hold) ∧ n ∈ p.exclusion := by
  simp [Platform.excludes]

theorem wanted_iff (s : State) (n : NodeId) : s.wanted n = true ↔ s.nodeState n ≠ .failed ∧ s.plat.excludes n = false ∧
    ∃ L, s.plat.governing = some L ∧ (s.record n).memberOf L = true := by
  unfold State.wanted
  cases s.plat.governing <;> simp [and_assoc]

theorem heldUp_iff (s : State) (n : NodeId) : s.heldUp n = true ↔ ∃ m, (s.record m).used = true ∧ n ∈ (s.record m).prereqs ∧
    ((s.nodeState m).energized = true ∨ s.nodeState m = .draining) := by
  simp only [State.heldUp, List.any_eq_true, mem_dependents, ConfigSet.lists, Bool.or_eq_true, beq_iff_eq, and_assoc]
  rfl

theorem conforms_iff (s : State) (L : Level) (n : NodeId) : s.conforms L n = true ↔ ((s.record n).used = true →
    if (s.record n).memberOf L = true ∧ s.plat.excludes n = false then
      s.nodeState n = .on ∨ s.nodeState n = .held ∨ s.nodeState n = .failed
    else s.nodeState n = .off ∨ s.nodeState n = .failed) := by
  unfold State.conforms
  cases hused : (s.record n).used
  · simp
  · cases hmember : (s.record n).memberOf L <;> cases hex : s.plat.excludes n <;> simp [or_assoc]

theorem allConform_iff (s : State) :
    s.allConform = true ↔ ∃ L, s.plat.governing = some L ∧ ∀ n, s.conforms L n = true := by
  unfold State.allConform
  cases s.plat.governing <;> simp [mem_allNodes]

theorem governing_of_settled {p : Platform} (h : p.phase = .settled) : p.governing = some p.settled := by
  simp [Platform.governing, h]

theorem allConform_of_settled {s : State} (h : s.plat.phase = .settled) :
    s.allConform = true ↔ ∀ n, s.conforms s.plat.settled n = true := by
  simp [allConform_iff, governing_of_settled h]

theorem downLegEnds_iff (s : State) : s.downLegEnds = true ↔ s.downOver := by
  simp [State.downLegEnds, State.downOver]

theorem settleDue_iff (s : State) : s.settleDue ↔
    (s.plat.phase.inFlight && s.plat.recycle != some .down && s.plat.recycle != some .hold && s.allConform) = true := by
  simp [State.settleDue, allConform_iff, and_assoc]

theorem settles_of_via {s : State} (h : s.settleDue) {v : Level} (hv : s.plat.via = some v) :
    s.settles = some (.viaSettle v) := by
  rw [State.settles, if_pos ((settleDue_iff s).1 h)]
  simp [hv]

theorem settles_of_target {s : State} (h : s.settleDue) (hv : s.plat.via = none) {t : Level} (ht : s.plat.target = some t) :
    s.settles = some (.settle t) := by
  rw [State.settles, if_pos ((settleDue_iff s).1 h)]
  simp [hv, ht]

theorem settles_of_not_due {s : State} (h : ¬s.settleDue) : s.settles = none := by
  rw [State.settles, if_neg fun k => h ((settleDue_iff s).2 k)]

theorem find_forced_eq_none_iff (s : State) :
    (if s.plat.trip then none else s.queue.find? fun e => e.kind == .forced) = none ↔ ¬s.forcedDue := by
  cases ht : s.plat.trip <;> simp [State.forcedDue, ht]

theorem mem_of_headFits {s : State} {n : NodeId} (h : s.headFits n) : ∃ x ∈ s.ready, x.node = n := by
  obtain ⟨⟨x, rest, hready, hx⟩, -⟩ := h
  exact ⟨x, hready ▸ List.mem_cons_self, hx⟩

theorem grantable_eq_some_iff (s : State) (n : NodeId) : s.grantable = some n ↔ s.headFits n := by
  unfold State.grantable State.headFits
  cases hr : s.ready with
  | nil => simp
  | cons x rest =>
    simp only [Option.ite_none_right_eq_some, Option.some.injEq, List.cons.injEq]
    constructor
    · rintro ⟨hfit, rfl⟩
      exact ⟨⟨x, rest, ⟨rfl, rfl⟩, rfl⟩, hfit⟩
    · rintro ⟨⟨y, ys, ⟨rfl, rfl⟩, rfl⟩, hfit⟩
      exact ⟨hfit, rfl⟩

/-! ### The nodes' own rules -/

theorem placement_placedAs (s : State) (n : NodeId) : s.placedAs n (s.placement n) := by
  unfold State.placedAs State.placement
  simp only [List.any_eq_true, Bool.or_eq_true, beq_iff_eq, bne_iff_ne]
  split
  · rfl
  · split <;> rfl

theorem placement_ne_off (s : State) (n : NodeId) : s.placement n ≠ .off := by
  unfold State.placement
  dsimp only
  split_ifs <;> simp

/-- Which move each node makes, and when (R21, R22, R30, R31). -/
theorem nodeMove_eq_some_iff (s : State) (n : NodeId) (m : NodeMove) : s.nodeMove n = some m ↔
    (s.nodeState n = .off ∧ s.wanted n = true ∧ m = .place (s.placement n)) ∨
    ((s.nodeState n = .waiting ∨ s.nodeState n = .held ∨ s.nodeState n = .ready) ∧ s.wanted n = false ∧ m = .off) ∨
    ((s.nodeState n = .waiting ∨ s.nodeState n = .held ∨ s.nodeState n = .ready) ∧ s.wanted n = true ∧
      s.placement n ≠ s.nodeState n ∧ m = .place (s.placement n)) ∨
    ((s.nodeState n = .rising ∨ s.nodeState n = .settling ∨ (s.nodeState n = .on ∧ s.heldUp n = false)) ∧
      s.wanted n = false ∧ m = .drop) := by
  unfold State.nodeMove
  cases hst : s.nodeState n <;> cases hw : s.wanted n <;> cases hh : s.heldUp n <;> simp [eq_comm]

theorem nodeTurn_of_none {s : State} {n : NodeId} (h : s.nodeMove n = none) : s.nodeTurn n = s := by
  simp [State.nodeTurn, h]

theorem nodeTurn_of_some {s : State} {n : NodeId} {m : NodeMove} (h : s.nodeMove n = some m) :
    s.nodeTurn n = s.applyNodeMove n m := by
  simp [State.nodeTurn, h]

theorem energized_iff (st : NodeState) : st.energized = true ↔ st = .rising ∨ st = .settling ∨ st = .on := by
  cases st <;> decide

/-- A move takes the node to another state. -/
theorem applyNodeMove_nodeState_ne {s : State} {n : NodeId} {m : NodeMove} (h : s.nodeMove n = some m) :
    (s.applyNodeMove n m).nodeState n ≠ s.nodeState n := by
  rcases (nodeMove_eq_some_iff s n m).1 h with ⟨hst, hw, rfl⟩ | ⟨hst, hw, rfl⟩ | ⟨hst, hw, hne, rfl⟩ | ⟨hst, hw, rfl⟩
  · have hne : s.nodeState n ≠ s.placement n := fun e => placement_ne_off s n (e ▸ hst)
    rw [State.applyNodeMove, place_eq hne]
    simpa [State.nodeState] using hne.symm
  · have hne : s.nodeState n ≠ .off := by rintro e; simp [e] at hst
    rw [State.applyNodeMove, toOff_eq hne]
    simpa [State.nodeState, NodeLive.settledIn] using hne.symm
  · rw [State.applyNodeMove, place_eq (Ne.symm hne)]
    simpa [State.nodeState] using hne
  · have hen : (s.nodeState n).energized = true :=
      (energized_iff _).2 (hst.imp id (Or.imp id And.left))
    rw [State.applyNodeMove, drop_eq hen]
    have hne : (s.droppedRecord n).state.energized = false := by
      unfold State.droppedRecord; split <;> rfl
    intro e
    rw [← e] at hen
    simp [State.nodeState, hne] at hen

theorem nodeTurn_eq_self_iff (s : State) (n : NodeId) : s.nodeTurn n = s ↔ s.nodeMove n = none := by
  refine ⟨fun h => ?_, nodeTurn_of_none⟩
  cases hm : s.nodeMove n with
  | none => rfl
  | some m =>
    rw [nodeTurn_of_some hm] at h
    exact absurd (congrArg (fun t => State.nodeState t n) h) (applyNodeMove_nodeState_ne hm)

theorem still_iff (s : State) : s.still = true ↔ ∀ n, s.nodeMove n = none := by
  simp [State.still, mem_allNodes]

theorem still_iff_turns (s : State) : s.still = true ↔ ∀ n, s.nodeTurn n = s := by
  simp only [still_iff, nodeTurn_eq_self_iff]

/-- A node's turn, by its state, its wanted status and what holds it up. -/
theorem nodeTurn_cases (s : State) (n : NodeId) :
    (s.nodeState n = .draining ∨ s.nodeState n = .failed ∨ (s.nodeState n = .off ∧ s.wanted n = false) ∨
      ((s.nodeState n).energized = true ∧ s.wanted n = true) ∨ (s.nodeState n = .on ∧ s.heldUp n = true) →
        s.nodeTurn n = s) ∧
    (s.nodeState n = .waiting ∨ s.nodeState n = .held ∨ s.nodeState n = .ready → s.wanted n = false →
      s.turnedOff (s.nodeTurn n) n) ∧
    (s.nodeState n = .off ∨ s.nodeState n = .waiting ∨ s.nodeState n = .held ∨ s.nodeState n = .ready →
      s.wanted n = true → ∃ st, s.placedAs n st ∧
        if st = s.nodeState n then s.nodeTurn n = s else s.placed (s.nodeTurn n) n st) ∧
    (s.nodeState n = .rising ∨ s.nodeState n = .settling ∨ (s.nodeState n = .on ∧ s.heldUp n = false) →
      s.wanted n = false → s.dropped (s.nodeTurn n) n) := by
  refine ⟨fun h => ?_, fun h hw => ?_, fun h hw => ⟨_, placement_placedAs s n, ?_⟩, fun h hw => ?_⟩
  · refine (nodeTurn_eq_self_iff s n).2 (Option.eq_none_iff_forall_not_mem.2 fun m hm => ?_)
    rw [Option.mem_def, nodeMove_eq_some_iff] at hm
    rw [energized_iff] at h
    rcases h with h | h | ⟨h, hb⟩ | ⟨h | h | h, hb⟩ | ⟨h, hb⟩ <;> simp [*] at hm
  · have hne : s.nodeState n ≠ .off := by rintro e; simp [e] at h
    rw [nodeTurn_of_some ((nodeMove_eq_some_iff s n .off).2 (.inr (.inl ⟨h, hw, rfl⟩)))]
    exact toOff_turnedOff hne
  · split
    · next hst =>
      refine nodeTurn_of_none (Option.eq_none_iff_forall_not_mem.2 fun m hm => ?_)
      have hoff : s.nodeState n ≠ .off := hst ▸ placement_ne_off s n
      rw [Option.mem_def, nodeMove_eq_some_iff] at hm
      simp [hoff, hw, hst] at hm
    · next hst =>
      have hm : s.nodeMove n = some (.place (s.placement n)) := by
        rw [nodeMove_eq_some_iff]
        rcases h with h | h
        · exact .inl ⟨h, hw, rfl⟩
        · exact .inr (.inr (.inl ⟨h, hw, hst, rfl⟩))
      rw [nodeTurn_of_some hm]
      exact place_placed (Ne.symm hst)
  · have hen : (s.nodeState n).energized = true :=
      (energized_iff _).2 (h.imp id (Or.imp id And.left))
    rw [nodeTurn_of_some ((nodeMove_eq_some_iff s n .drop).2 (.inr (.inr (.inr ⟨h, hw, rfl⟩))))]
    exact drop_dropped hen

/-! ### The grant -/

/-- The head with its charge, at the start of its rise (R25, R45). -/
def State.grantBegun (s : State) (n : NodeId) : State :=
  s.withNode n { s.node n with
    state := .rising, rise := some (s.record n).riseTime.toNat, charge := some (s.record n).weight.toNat, noted := false
    mode := some (s.modeNow n) } (s.budgetInUse + (s.record n).weight.toNat) (s.ready.filter fun x => x.node != n)

/-- A rise of `n` that begins now has nothing to wait for (R25). -/
def State.risesAtOnce (s : State) (n : NodeId) : Prop :=
  (s.record n).senses n = true ∧ (s.node n).good = true ∨ (s.record n).senses n = false ∧ (s.record n).riseTime = 0

theorem grantBegun_good (s : State) (n : NodeId) : ((s.grantBegun n).node n).good = (s.node n).good := by
  simp [State.grantBegun]

/-- A grant begins the rise, which ends at once where it has nothing to wait for. -/
theorem grant_eq (s : State) (n : NodeId) : s.grant n =
    if (s.modeNow n == .timed && (s.record n).riseTime.toNat == 0 ||
      s.modeNow n == .sensed && ((s.grantBegun n).node n).good) = true then (s.grantBegun n).enterSettling n
    else s.grantBegun n := rfl

theorem risesAtOnce_iff (s : State) (n : NodeId) :
    (s.modeNow n == .timed && (s.record n).riseTime.toNat == 0 ||
      s.modeNow n == .sensed && ((s.grantBegun n).node n).good) = true ↔ s.risesAtOnce n := by
  rw [grantBegun_good]
  cases hs : (s.record n).senses n <;> simp [State.modeNow, hs, State.risesAtOnce, ← BitVec.toNat_inj]

theorem grantBegun_nodeState (s : State) (n : NodeId) : (s.grantBegun n).nodeState n = .rising := by
  simp [State.grantBegun, State.nodeState]

theorem grant_granted (s : State) (n : NodeId) : s.granted (s.grant n) n := by
  refine ⟨s.grantBegun n, withNode_onlyNode s n _ _ _, rfl, rfl, by simp [State.grantBegun, State.modeNow], ?_⟩
  have hiff := risesAtOnce_iff s n
  rw [State.risesAtOnce] at hiff
  rw [grant_eq]
  simp only [hiff]
  split
  · exact enterSettling_riseEnded (by simp [grantBegun_nodeState])
  · rfl

/-! ### One move of the reaction -/

theorem react_of_move {s : State} (k : Nat) (h : s.still = true) {m : Move} (hm : s.nextMove = some m) :
    State.react (k + 1) s = State.react k (s.applyMove m) := by
  simp only [State.react, standstill_of_still _ h, hm]

theorem react_of_no_move {s : State} (k : Nat) (h : s.still = true) (hm : s.nextMove = none) :
    State.react (k + 1) s = s := by
  simp only [State.react, standstill_of_still _ h, hm]

theorem nextMove_of_downOver {s : State} (h : s.still = true) (hp : s.plat.phase ≠ .halted) (hd : s.downOver) :
    s.nextMove = some .startHold := by
  simp [State.nextMove, hp, h, (downLegEnds_iff s).2 hd]

theorem not_downOver_of_settleDue {s : State} (h : s.settleDue) : ¬s.downOver := fun hd => h.2.1 hd.1

theorem nextMove_of_not_downOver {s : State} (h : s.still = true) (hp : s.plat.phase ≠ .halted) (hd : ¬s.downOver) :
    s.nextMove = (s.settles.or s.nextRequest).or (s.grantable.map .grant) := by
  have hd' : s.downLegEnds = false := by rw [← Bool.not_eq_true, downLegEnds_iff]; exact hd
  cases hs : s.settles <;> cases hr : s.nextRequest <;> simp [State.nextMove, hp, h, hd', hs, hr]

theorem nextRequest_of_forced {s : State} (ht : s.plat.trip = false) {r : Request}
    (hr : s.queue.find? (fun q => q.kind == .forced) = some r) : s.nextRequest = some (.handForced r) := by
  simp [State.nextRequest, ht, hr]

theorem nextRequest_of_not_forced {s : State} (h : ¬s.forcedDue) : s.nextRequest =
    if s.plat.phase = .settled then
      if s.allConform = true then (s.queue.head?.map .takeHead) else some .repair
    else none := by
  unfold State.nextRequest
  rw [(find_forced_eq_none_iff s).2 h]
  cases s.allConform <;> cases s.queue <;> simp

theorem not_settleDue_of_settled {s : State} (h : s.plat.phase = .settled) : ¬s.settleDue := fun k => by
  simpa [h, Phase.inFlight] using k.1

theorem nextMove_of_onlyGrantsLeft {s : State} (h : s.still = true) (hp : s.plat.phase ≠ .halted) (hg : s.onlyGrantsLeft) :
    s.nextMove = s.grantable.map .grant := by
  obtain ⟨hdown, hsettle, hforced, hrest⟩ := hg
  have hnone : s.nextRequest = none := by
    rw [nextRequest_of_not_forced hforced]
    split
    · next hset =>
      obtain ⟨hall, hq⟩ := hrest hset
      simp [(allConform_of_settled hset).2 hall, hq]
    · rfl
  rw [nextMove_of_not_downOver h hp hdown, settles_of_not_due hsettle, hnone]
  rfl

theorem forced_of_find {q : List Request} {r : Request} (h : q.find? (fun q => q.kind == .forced) = some r) :
    r.kind = .forced := by
  simpa using List.find?_some h

theorem react_of_settled_no_forced {s : State} (k : Nat) (h : s.still = true) (hf : ¬s.forcedDue)
    (hp : s.plat.phase = .settled) (hd : ¬s.downOver) {m : Move}
    (hm : (if s.allConform = true then s.queue.head?.map Move.takeHead else some .repair) = some m) :
    State.react (k + 1) s = State.react k (s.applyMove m) := by
  refine react_of_move k h ?_
  rw [nextMove_of_not_downOver h (by simp [hp]) hd, settles_of_not_due (not_settleDue_of_settled hp),
    nextRequest_of_not_forced hf, if_pos hp, hm]
  rfl

theorem react_of_halted {s : State} (k : Nat) (h : s.still = true) (hp : s.plat.phase = .halted) :
    State.react (k + 1) s = s :=
  react_of_no_move k h (by simp [State.nextMove, hp])

/-- The move made from a still state outside HALTED, with its effect: legs, settles, requests, repairs, grants. -/
theorem react_of_still {s : State} (k : Nat) (h : s.still = true) (hp : s.plat.phase ≠ .halted) :
    (s.downOver → State.react (k + 1) s = State.react k s.heldAt) ∧
    (s.settleDue → ∀ v, s.plat.via = some v → State.react (k + 1) s = State.react k (s.viaSettledAt v)) ∧
    (s.settleDue → s.plat.via = none → ∀ T, s.plat.target = some T →
      State.react (k + 1) s = State.react k (s.settledAt T)) ∧
    (¬s.downOver → ¬s.settleDue → s.plat.trip = false → ∀ r, s.queue.find? (fun q => q.kind == .forced) = some r →
      State.react (k + 1) s =
        State.react k (State.overtakenBy { s with queue := s.queue.filter fun q => q.source != r.source } r)) ∧
    (¬s.forcedDue → s.plat.phase = .settled → (∃ n, s.conforms s.plat.settled n = false) → ¬s.downOver →
      State.react (k + 1) s = State.react k s.repairing) ∧
    (¬s.forcedDue → s.plat.phase = .settled → (∀ n, s.conforms s.plat.settled n = true) → ¬s.downOver →
      ∀ r rest, s.queue = r :: rest →
        State.react (k + 1) s = State.react k (State.takenInSettled { s with queue := rest } r)) ∧
    (s.onlyGrantsLeft → ∀ n, s.headFits n → ∃ e, s.granted e n ∧ State.react (k + 1) s = State.react k e) ∧
    (s.onlyGrantsLeft → (∀ n, ¬s.headFits n) → State.react (k + 1) s = s) := by
  refine ⟨fun hd => ?_, fun hs v hv => ?_, fun hs hv T hT => ?_, fun hd hs ht r hr => ?_, fun hf hset hbad hd => ?_,
    fun hf hset hall hd r rest hq => ?_, fun hg n hn => ⟨s.grant n, grant_granted s n, ?_⟩, fun hg hn' => ?_⟩
  · exact react_of_move k h (nextMove_of_downOver h hp hd)
  · rw [← viaSettle_eq]
    refine react_of_move k h (m := .viaSettle v) ?_
    rw [nextMove_of_not_downOver h hp (not_downOver_of_settleDue hs), settles_of_via hs hv]
    rfl
  · rw [← settle_eq]
    refine react_of_move k h (m := .settle T) ?_
    rw [nextMove_of_not_downOver h hp (not_downOver_of_settleDue hs), settles_of_target hs hv hT]
    rfl
  · rw [← takeForced_eq (forced_of_find hr)]
    refine react_of_move k h (m := .handForced r) ?_
    rw [nextMove_of_not_downOver h hp hd, settles_of_not_due hs, nextRequest_of_forced ht hr]
    rfl
  · obtain ⟨n, hn⟩ := hbad
    have hbad : ¬s.allConform = true := fun hc => by
      simp [(allConform_of_settled hset).1 hc n] at hn
    rw [← startRepair_eq]
    exact react_of_settled_no_forced k h hf hset hd (m := .repair) (if_neg hbad)
  · have hall' := (allConform_of_settled hset).2 hall
    rw [← take_eq_takenInSettled (s := { s with queue := rest }) r hset]
    have hrest : ({ s with queue := rest } : State) = { s with queue := s.queue.tail } := by rw [hq]; rfl
    rw [hrest]
    exact react_of_settled_no_forced k h hf hset hd (m := .takeHead r) (by rw [if_pos hall', hq]; rfl)
  · refine react_of_move k h (m := .grant n) ?_
    rw [nextMove_of_onlyGrantsLeft h hp hg, (grantable_eq_some_iff s n).2 hn]
    rfl
  · refine react_of_no_move k h ?_
    have hnone : s.grantable = none := Option.eq_none_iff_forall_not_mem.2 fun n hn =>
      hn' n ((grantable_eq_some_iff s n).1 hn)
    rw [nextMove_of_onlyGrantsLeft h hp hg, hnone]
    rfl

theorem finish_eq (s : State) : s.finish =
    let t := State.react Config.moveFuel s
    if t.frame.taken = true ∧ t.hostLive = false then { t with frame := .ignored } else t := by
  simp [State.finish, State.abandonFrame]

/-- Settles O5: a quiet state does not move; else the nodes' turns by state, and the moves one by one. -/
theorem reactionAtRestChangesNothing : Obligations.ReactionAtRestChangesNothing := by
  refine ⟨fun s => finish_of_quiet, finish_eq, fun s n => ⟨excludes_iff s.plat n, wanted_iff s n, heldUp_iff s n,
    fun L => conforms_iff s L n⟩, nodeTurn_cases, fun s => ⟨still_iff_turns s, fun k => rfl⟩, fun s k h => ?_,
    fun s k h => ⟨react_of_halted k h, react_of_still k h⟩⟩
  rw [State.react, State.react, standstill_of_still _ h]

end Sys2Proof.Machine

/-! # Take-downs, faults and the node events

SHED, TRIPPED and HALTED as the states they leave, and the commands at a node's timers and good input (R23 to R37, R99 to R109). -/

namespace Sys2Proof.Machine

/-! ### Sums over the nodes -/

/-- The sum of a number at each node. -/
def nodeSum (f : NodeId → Nat) : Nat := (allNodes.map f).sum

theorem nodeSum_eq (f : NodeId → Nat) : nodeSum f = ∑ n, f n := (Fin.sum_univ_def f).symm

theorem sum_map_allNodes (f : NodeId → Nat) : (allNodes.map f).sum = nodeSum f := rfl

theorem nodeSum_add (f g : NodeId → Nat) : nodeSum f + nodeSum g = nodeSum fun n => f n + g n := by
  rw [nodeSum_eq, nodeSum_eq, nodeSum_eq, Finset.sum_add_distrib]

theorem nodeSum_congr {f g : NodeId → Nat} (h : ∀ n, f n = g n) : nodeSum f = nodeSum g := congrArg nodeSum (funext h)

/-- A number at one node counts apart from the rest. -/
theorem nodeSum_split {f g : NodeId → Nat} (n : NodeId) (hne : ∀ m, m ≠ n → f m = g m) (hz : g n = 0) :
    nodeSum f = f n + nodeSum g := by
  have hf : ∀ m, f m = (if m = n then f n else 0) + g m := fun m => by
    by_cases h : m = n
    · simp [h, hz]
    · simp [h, hne m h]
  rw [nodeSum_eq, nodeSum_eq, Finset.sum_congr rfl fun m _ => hf m, Finset.sum_add_distrib]
  simp

/-! ### Releasing the charges of a list of nodes -/

theorem sameButNodes_active {s e : State} (h : s.sameButNodes e) : e.active = s.active := by
  rw [← h]

theorem sameButNodes_plat {s e : State} (h : s.sameButNodes e) : e.plat = s.plat := by
  rw [← h]

theorem sameButNodes_exists {s e : State} (h : s.sameButNodes e) :
    ∃ nodes budget ready, e = { s with nodes := nodes, budgetInUse := budget, ready := ready } :=
  ⟨e.nodes, e.budgetInUse, e.ready, by rw [← h]⟩

/-- An operation that, where it acts, gives a node the record `goes` without its charge; `leaves` says which nodes give up their place in the ready queue. -/
structure Releasing (op : State → NodeId → State) (acts : State → NodeId → Bool) (goes : State → NodeId → NodeLive)
    (leaves : NodeId → Bool) : Prop where
  idle : ∀ s n, acts s n = false → op s n = s
  act : ∀ s n, acts s n = true → op s n = s.withNode n (goes s n) (s.budgetWithout n)
    (if leaves n then s.ready.filter (fun x => x.node != n) else s.ready)
  acts_local : ∀ (s e : State) (n : NodeId), e.node n = s.node n → e.active = s.active → acts e n = acts s n
  goes_local : ∀ (s e : State) (n : NodeId), e.node n = s.node n → e.active = s.active → goes e n = goes s n
  once : ∀ (s e : State) (n : NodeId), acts s n = true → e.node n = goes s n → acts e n = false

/-- The operation has acted at those nodes of a list where it acts, from `s` to `e`. -/
structure State.Released (s e : State) (takes : NodeId → Bool) (goes : State → NodeId → NodeLive) (leaves : NodeId → Bool) :
    Prop where
  same : s.sameButNodes e
  node : ∀ m, e.node m = if takes m then goes s m else s.node m
  budget : e.budgetInUse = s.budgetInUse - nodeSum fun m => if takes m then (s.node m).charge.getD 0 else 0
  ready : e.ready = s.ready.filter fun x => !(takes x.node && leaves x.node)

section

variable {op : State → NodeId → State} {acts : State → NodeId → Bool} {goes : State → NodeId → NodeLive}
  {leaves : NodeId → Bool}

theorem released_nil (s : State) : s.Released s (fun _ => false) goes leaves where
  same := rfl
  node m := by simp
  budget := by simp [nodeSum]
  ready := by simp

theorem released_congr {s e : State} {f g : NodeId → Bool} (h : s.Released e f goes leaves) (hfg : ∀ m, f m = g m) :
    s.Released e g goes leaves := by
  rwa [show f = g from funext hfg] at h

/-- One more node, before the rest. -/
theorem released_after (hop : Releasing op acts goes leaves) {s u e : State} {takes takes' : NodeId → Bool} {n : NodeId}
    (hact : acts s n = true) (hu : u = op s n) (hself : takes' n = true) (hnot : takes n = false)
    (hother : ∀ m, m ≠ n → takes' m = takes m) (h : u.Released e takes goes leaves) : s.Released e takes' goes leaves := by
  rw [hop.act s n hact] at hu
  have hsame : s.sameButNodes u := by rw [hu]; rfl
  have hactive := sameButNodes_active hsame
  have hnode : u.node n = goes s n := by rw [hu, withNode_node_self]
  have hnodes : ∀ m, m ≠ n → u.node m = s.node m := fun m hm => by rw [hu, withNode_node_of_ne s _ _ _ hm]
  have hbudget : u.budgetInUse = s.budgetWithout n := by rw [hu]; rfl
  have hready : u.ready = if leaves n then s.ready.filter (fun x => x.node != n) else s.ready := by rw [hu]; rfl
  refine ⟨hsame.trans h.same, fun m => ?_, ?_, ?_⟩
  · rw [h.node]
    by_cases hm : m = n
    · subst hm; simp [hnot, hself, hnode]
    · rw [hother m hm, hnodes m hm, hop.goes_local s u m (hnodes m hm) hactive]
  · rw [h.budget, hbudget, State.budgetWithout, Nat.sub_sub,
      nodeSum_split (f := fun m => if takes' m then (s.node m).charge.getD 0 else 0)
        (g := fun m => if takes m then (u.node m).charge.getD 0 else 0) n
        (fun m hm => by rw [hother m hm, hnodes m hm]) (by rw [hnot]; rfl), hself]
    rfl
  · rw [h.ready, hready]
    cases hl : leaves n
    · rw [if_neg Bool.false_ne_true]
      refine List.filter_congr fun x _ => ?_
      by_cases hx : x.node = n
      · rw [hx, hl]; simp
      · rw [hother _ hx]
    · rw [if_pos rfl, List.filter_filter]
      refine List.filter_congr fun x _ => ?_
      by_cases hx : x.node = n
      · rw [hx, hself, hl]; simp
      · have hb : (x.node != n) = true := bne_iff_ne.2 hx
        rw [hother _ hx]; simp [hb]

theorem released_foldl (hop : Releasing op acts goes leaves) (ns : List NodeId) (s : State) :
    s.Released (ns.foldl op s) (fun m => ns.contains m && acts s m) goes leaves := by
  induction ns generalizing s with
  | nil => exact released_congr (released_nil s) fun m => by simp
  | cons n ns ih =>
    rw [List.foldl_cons]
    cases hact : acts s n
    · rw [hop.idle s n hact]
      refine released_congr (ih s) fun m => ?_
      by_cases hm : m = n
      · simp [hm, hact]
      · simp [hm]
    · have hrest := ih (op s n)
      have hgoes : (op s n).node n = goes s n := by rw [hop.act s n hact, withNode_node_self]
      refine released_after hop hact rfl (by simp [hact]) ?_ (fun m hm => ?_) hrest
      · rw [hop.once s _ n hact hgoes, Bool.and_false]
      · have hnode : (op s n).node m = s.node m := by rw [hop.act s n hact, withNode_node_of_ne s _ _ _ hm]
        have hactive : (op s n).active = s.active := by rw [hop.act s n hact]; rfl
        rw [hop.acts_local s _ m hnode hactive]
        simp [hm]

end

/-! ### Taking down -/

theorem droppedRecord_not_energized (s : State) (n : NodeId) : (s.droppedRecord n).state.energized = false := by
  unfold State.droppedRecord; split <;> rfl

theorem droppedRecord_congr {s e : State} {n : NodeId} (hnode : e.node n = s.node n) (hactive : e.active = s.active) :
    e.droppedRecord n = s.droppedRecord n := by
  have hrecord : e.record n = s.record n := by rw [State.record, hactive]; rfl
  unfold State.droppedRecord
  rw [hnode, hrecord]

theorem takeDown_releasing : Releasing State.takeDown (fun s n => (s.nodeState n).energized) State.droppedRecord isGate where
  idle s n h := by simp [State.takeDown, h]
  act s n h := by
    rw [State.takeDown, if_pos h, drop_eq h, State.readyAfterDrop]
  acts_local s e n hn _ := by simp only [State.nodeState, hn]
  goes_local s e n hn ha := droppedRecord_congr hn ha
  once s e n _ hn := by simp only [State.nodeState, hn, droppedRecord_not_energized]

/-- The node is listed and energized. -/
def State.taken (s : State) (ns : List NodeId) (m : NodeId) : Bool := ns.contains m && (s.nodeState m).energized

/-- The energized nodes of a list have been taken down, from `s` to `e`: they drain or are OFF, with their charges released (R35, R47). -/
abbrev State.TakenDown (s e : State) (ns : List NodeId) : Prop := s.Released e (s.taken ns) State.droppedRecord isGate

theorem takeDown_all (s : State) (ns : List NodeId) : s.TakenDown (ns.foldl State.takeDown s) ns :=
  released_foldl takeDown_releasing ns s

/-! ### SHED -/

/-- A node has failed and then those of its transitive dependents that are energized go down. -/
theorem shedNodes_after {s u e : State} {n : NodeId} (hself : u.node n = (s.node n).settledIn .failed)
    (hother : ∀ m, m ≠ n → u.node m = s.node m) (hactive : u.active = s.active) (hbudget : u.budgetInUse = s.budgetWithout n)
    (hready : u.ready = s.ready.filter fun x => x.node != n) (h : u.TakenDown e (s.active.transitiveDependents n)) :
    s.shedNodes e n := by
  have hnot : u.taken (s.active.transitiveDependents n) n = false := by
    simp [State.taken, State.nodeState, hself, NodeLive.settledIn, NodeState.energized]
  have htaken : ∀ m, m ≠ n → u.taken (s.active.transitiveDependents n) m = s.shedTakes n m := fun m hm => by
    have hb : (m != n) = true := bne_iff_ne.2 hm
    simp [State.taken, State.shedTakes, State.nodeState, hother m hm, hb]
  refine ⟨?_, fun m hm => ?_, ?_, ?_⟩
  · rw [h.node, hnot, hself]; rfl
  · rw [h.node, htaken m hm, hother m hm, droppedRecord_congr (hother m hm) hactive]
  · rw [h.budget, hbudget, State.budgetWithout, Nat.sub_sub]
    rw [sum_map_allNodes, nodeSum_split (f := fun m => if m = n ∨ s.shedTakes n m = true then (s.node m).charge.getD 0 else 0)
      (g := fun m => if u.taken (s.active.transitiveDependents n) m then (u.node m).charge.getD 0 else 0) n
      (fun m hm => by simp [hm, htaken m hm, hother m hm]) (by rw [hnot]; rfl)]
    simp
  · rw [h.ready, hready, List.filter_filter]
    refine List.filter_congr fun x _ => ?_
    by_cases hx : x.node = n
    · rw [hx]; simp
    · have hb : (x.node != n) = true := bne_iff_ne.2 hx
      rw [htaken _ hx]; simp [hb]

theorem shed_shedNodes {s : State} {n : NodeId} (h : s.nodeState n ≠ .failed) : s.shedNodes (s.shed n) n := by
  have hfail := fail_eq h
  have hactive : (s.fail n).active = s.active := by rw [hfail]; rfl
  refine shedNodes_after (u := s.fail n) (by rw [hfail, withNode_node_self])
    (fun m hm => by rw [hfail, withNode_node_of_ne s _ _ _ hm]) hactive (by rw [hfail]; rfl) (by rw [hfail]; rfl) ?_
  rw [State.shed, hactive]
  exact takeDown_all _ _

/-! ### The fault log -/

theorem logFault_logged (s : State) (kind : FaultKind) (node : Option NodeId) (stage : Option Nat) (action : FaultAction) :
    s.logged (s.logFault kind node stage action) (s.recordOf kind node stage action) := by
  unfold State.logged State.logFault State.storeFault
  split
  · refine ⟨rfl, ?_⟩
    cases hf : s.retained.firstFault <;> simp [State.faultRecord, State.recordOf]
  · exact ⟨rfl, rfl⟩

theorem logFault_frame (s : State) (kind : FaultKind) (node : Option NodeId) (stage : Option Nat) (action : FaultAction) :
    s.logFault kind node stage action = { s with
      faults := (s.logFault kind node stage action).faults
      retained := (s.logFault kind node stage action).retained } := by
  unfold State.logFault State.storeFault
  split <;> rfl

theorem logged_congr {s e e' : State} {r : FaultRecord} (h : s.logged e r) (hf : e'.faults = e.faults)
    (hr : e'.retained = e.retained) : s.logged e' r := by
  unfold State.logged at h ⊢
  rwa [hf, hr]

/-! ### TRIPPED and HALTED -/

theorem effectiveTripLevel_ne_run (s : State) (n : NodeId) : s.effectiveTripLevel n ≠ .run := by
  unfold State.effectiveTripLevel lowLevelOfByte
  split_ifs <;> simp

/-- The requests that a trip aborts: the one in flight, then the queue (R69, R86). -/
def State.pendingRequests (s : State) : List Request := s.plat.inFlight.toList ++ s.queue

theorem startTrip_eq {s : State} {L : Level} (h : L ≠ .run) : s.startTrip L = { s with
    queue := [], idle := none
    completions := s.ended s.pendingRequests .abortedByFault
    monitor := (s.monitor.afterLoss s.pendingRequests).afterLeaving
    plat :=
      { settled := s.plat.settled
        phase := if L.rank < s.plat.settled.rank then .falling else .rising
        target := some L, via := none, recycle := none, exclusion := [], holdTimer := none
        trip := true, tripped := s.plat.tripped, degraded := s.plat.degraded, inFlight := none } } := by
  have hflushed : (s.completeInFlight .abortedByFault).flushQueue =
      { s.losing s.pendingRequests .abortedByFault with plat := s.plat.unloaded, queue := [] } := by
    rw [completeInFlight_of_loses s (.inr rfl), flushQueue_eq, State.pendingRequests, ← losing_losing]
    rfl
  unfold State.startTrip
  rw [hflushed, reportStart_eq]
  simp [State.startTransition, Platform.labelled, phaseLabel_eq, h, State.losing, Platform.unloaded]

theorem enterHalted_eq (s : State) : s.enterHalted = { s with
    nodes := s.nodes.map fun l => { NodeLive.start with state := if l.state = .failed then .failed else .off }
    ready := [], budgetInUse := 0, queue := [], idle := none
    completions := s.ended s.queue .abortedByFault
    monitor := s.monitor.afterLoss s.queue
    button := { s.button with state := .locked, longTimer := none }
    plat := { s.plat with
      phase := .halted, target := none, via := none, recycle := none, exclusion := [], holdTimer := none
      trip := false, inFlight := none } } := by
  unfold State.enterHalted
  rw [flushQueue_eq]
  rfl

theorem node_map (s : State) (f : NodeLive → NodeLive) (n : NodeId) :
    ({ s with nodes := s.nodes.map f } : State).node n = f (s.node n) := by
  simp [State.node]

theorem haltEntered_of_fail {s : State} {n : NodeId} (h : s.nodeState n ≠ .failed) :
    s.haltEntered (s.fail n).enterHalted n := by
  rw [enterHalted_eq, fail_eq h]
  refine ⟨fun m => ?_, rfl⟩
  have hm : (s.withNode n ((s.node n).settledIn .failed) (s.budgetWithout n)
      (s.ready.filter fun x => x.node != n)).nodeState m = if m = n then .failed else s.nodeState m := by
    by_cases hmn : m = n
    · simp [hmn, State.nodeState, NodeLive.settledIn]
    · simp [hmn, State.nodeState, withNode_node_of_ne s _ _ _ hmn]
  refine (node_map (s.withNode n _ _ _) (fun l => { NodeLive.start with state := if l.state = .failed then .failed else .off })
    m).trans ?_
  rw [nodeState_eq] at hm
  rw [hm]
  by_cases hmn : m = n <;> simp [hmn]

/-! ### A fault that reaches on_fault -/

theorem onFaultAction_eq (s : State) (n : NodeId) : s.onFaultAction n = s.actionAt n := by
  unfold State.onFaultAction State.actionAt
  cases (s.record n).sheds <;> rfl

theorem actionAt_cases (s : State) (n : NodeId) :
    s.actionAt n = .shed ∨ s.actionAt n = .tripped ∨ (s.actionAt n = .halted ∧ s.plat.trip = true) := by
  unfold State.actionAt
  cases (s.record n).sheds <;> cases s.plat.trip <;> simp

theorem faultOnPolicy_of_shed {s : State} (kind : FaultKind) {n : NodeId} (h : s.actionAt n = .shed) :
    s.faultOnPolicy kind n = (s.logFault kind (some n) none .shed).shed n := by
  simp [State.faultOnPolicy, onFaultAction_eq, h]

theorem faultOnPolicy_of_tripped {s : State} (kind : FaultKind) {n : NodeId} (h : s.actionAt n = .tripped) :
    s.faultOnPolicy kind n = ((s.logFault kind (some n) none .tripped).shed n).startTrip (s.effectiveTripLevel n) := by
  simp [State.faultOnPolicy, onFaultAction_eq, h]

theorem faultOnPolicy_of_halted {s : State} (kind : FaultKind) {n : NodeId} (h : s.actionAt n = .halted) :
    s.faultOnPolicy kind n = ((s.logFault kind (some n) none .halted).fail n).enterHalted := by
  simp [State.faultOnPolicy, onFaultAction_eq, h]

/-- `s` after it has logged: only the fault log and the retained record may differ. -/
def State.withLog (s : State) (f : FaultUnit) (r : Retained) : State := { s with faults := f, retained := r }

theorem logFault_eq_withLog (s : State) (kind : FaultKind) (node : Option NodeId) (stage : Option Nat)
    (action : FaultAction) : ∃ f r, s.logFault kind node stage action = s.withLog f r ∧
      s.logged (s.withLog f r) (s.recordOf kind node stage action) := by
  have h := logFault_logged s kind node stage action
  rw [logFault_frame] at h
  exact ⟨_, _, logFault_frame s kind node stage action, h⟩

theorem sameButNodes_log {s e : State} (h : s.sameButNodes e) : e.faults = s.faults ∧ e.retained = s.retained := by
  rw [← h]; exact ⟨rfl, rfl⟩

theorem faultOnPolicy_faultTaken (s : State) (kind : FaultKind) {n : NodeId} (h : s.nodeState n ≠ .failed) :
    s.faultTaken (s.faultOnPolicy kind n) kind n := by
  obtain ⟨f, r, hlog, hlogged⟩ := logFault_eq_withLog s kind (some n) none (s.actionAt n)
  have hn : (s.withLog f r).nodeState n ≠ .failed := h
  have hsame := shed_sameButNodes (s.withLog f r) n
  obtain ⟨hfaults, hretained⟩ := sameButNodes_log hsame
  unfold State.faultTaken
  rcases actionAt_cases s n with ha | ha | ⟨ha, -⟩ <;> rw [ha] at hlog hlogged ⊢
  · rw [faultOnPolicy_of_shed kind ha, hlog]
    exact ⟨logged_congr hlogged hfaults hretained, shed_shedNodes hn, congrArg (State.withLog · s.faults s.retained) hsame⟩
  · rw [faultOnPolicy_of_tripped kind ha, hlog]
    obtain ⟨nodes, budget, ready, hshed⟩ := sameButNodes_exists hsame
    have hshedNodes := shed_shedNodes hn
    rw [startTrip_eq (effectiveTripLevel_ne_run s n)]
    refine ⟨logged_congr hlogged hfaults hretained, hshedNodes, ?_⟩
    rw [hshed]
    rfl
  · rw [faultOnPolicy_of_halted kind ha, hlog]
    obtain ⟨hnodes, hrest⟩ := haltEntered_of_fail hn
    obtain ⟨hffaults, hfretained⟩ := sameButNodes_log (fail_sameButNodes (s.withLog f r) n)
    refine ⟨logged_congr hlogged ?_ ?_, hnodes, congrArg (State.withLog · s.faults s.retained) hrest⟩
    · rw [enterHalted_eq]; exact hffaults
    · rw [enterHalted_eq]; exact hfretained

/-! ### Good -/

theorem backfeed_of_noted {s : State} {n : NodeId} (h : (s.node n).noted = true) : s.backfeed n = s := by
  simp [State.backfeed, h]

theorem backfeed_of_not_noted {s : State} {n : NodeId} (h : (s.node n).noted = false) :
    s.logged (s.backfeed n) (s.recordOf .backfeed (some n) none .noted) ∧
      (s.backfeed n).withLog s.faults s.retained = s.setNode n { s.node n with noted := true } := by
  obtain ⟨f, r, hlog, hlogged⟩ := logFault_eq_withLog s .backfeed (some n) none .noted
  have heq : s.backfeed n = (s.withLog f r).setNode n { s.node n with noted := true } := by
    unfold State.backfeed
    rw [if_neg (by simp [h])]
    dsimp only
    rw [hlog]
    rfl
  rw [heq]
  exact ⟨logged_congr hlogged rfl rfl, rfl⟩

theorem nodeState_setNode_self (s : State) (n : NodeId) (l : NodeLive) : (s.setNode n l).nodeState n = l.state := by
  simp [State.nodeState]

/-- Good as it is now, with no filter interval. -/
def State.withGood (s : State) (n : NodeId) (good : Bool) : State :=
  s.setNode n { s.node n with good := good, filter := none }

@[simp] theorem withGood_nodeState (s : State) (n : NodeId) (good : Bool) : (s.withGood n good).nodeState n = s.nodeState n :=
  nodeState_setNode_self s n _

@[simp] theorem withGood_node (s : State) (n : NodeId) (good : Bool) :
    (s.withGood n good).node n = { s.node n with good := good, filter := none } :=
  node_setNode_self s n _

theorem takeGood_tookGood (s : State) (n : NodeId) : s.tookGood (s.takeGood n) n := by
  have htake : s.takeGood n = match s.nodeState n with
      | .rising => if (s.node n).mode = some .sensed then (s.withGood n true).enterSettling n else s.withGood n true
      | .off | .waiting | .held | .ready | .failed => (s.withGood n true).backfeed n
      | .settling | .on | .draining => s.withGood n true := by
    rw [← withGood_nodeState s n true]
    have hmode : (s.node n).mode = ((s.withGood n true).node n).mode := by simp
    rw [hmode]
    rfl
  refine ⟨fun hst hm => ?_, fun hst hm => ?_, fun hst => ?_, fun h1 h2 h3 h4 => ?_⟩
  · rw [htake, hst]
    dsimp only
    rw [if_pos hm]
    exact enterSettling_riseEnded (s := s.withGood n true) (n := n) (by simp [hst])
  · rw [htake, hst]
    dsimp only
    rw [if_neg hm]
    rfl
  · rw [htake]
    rcases hst with h | h | h <;> rw [h] <;> rfl
  · have hback : s.takeGood n = (s.withGood n true).backfeed n := by
      rw [htake]
      cases hst : s.nodeState n <;> simp [hst] at h1 h2 h3 h4 ⊢
    rw [hback]
    refine ⟨fun hn => backfeed_of_noted (by simpa using hn), fun hn => ?_⟩
    obtain ⟨hlogged, hrest⟩ := backfeed_of_not_noted (s := s.withGood n true) (n := n) (by simpa using hn)
    refine ⟨hlogged, ?_⟩
    have hset : (s.withGood n true).setNode n { (s.withGood n true).node n with noted := true } =
        s.setNode n { s.node n with good := true, filter := none, noted := true } := by
      rw [withGood_node, State.withGood, setNode_setNode]
    rw [← hset]
    exact hrest

theorem loseGood_lostGood (s : State) (n : NodeId) : s.lostGood (s.loseGood n) n := by
  have hlose : s.loseGood n = match s.nodeState n with
      | .settling | .on => (s.withGood n false).faultOnPolicy .goodLost n
      | .draining => if (s.node n).mode = some .sensed then (s.withGood n false).toOff n else s.withGood n false
      | .off | .waiting | .held | .ready | .rising | .failed => s.withGood n false := by
    rw [← withGood_nodeState s n false]
    have hmode : (s.node n).mode = ((s.withGood n false).node n).mode := by simp
    rw [hmode]
    rfl
  refine ⟨fun hst => ?_, fun hst hm => ?_, fun hst hm => ?_, fun h1 h2 h3 => ?_⟩
  · have hne : (s.withGood n false).nodeState n ≠ .failed := by
      rw [withGood_nodeState]; rintro e; simp [e] at hst
    have hfault := faultOnPolicy_faultTaken (s.withGood n false) .goodLost hne
    rw [hlose]
    rcases hst with h | h <;> rw [h] <;> exact hfault
  · rw [hlose, hst]
    dsimp only
    rw [if_pos hm]
    exact toOff_turnedOff (s := s.withGood n false) (n := n) (by simp [hst])
  · rw [hlose, hst]
    dsimp only
    rw [if_neg hm]
    rfl
  · rw [hlose]
    cases hst : s.nodeState n <;> simp [hst] at h1 h2 h3 ⊢ <;> rfl

/-! ### The commands at a node -/

theorem exec_eventIf_of_not {s : State} {can : Bool} (f : State → State) (h : can = false) :
    (Host.Outcome.next (s.eventIf can f) : Host.Outcome State Fault Refusal) = .next s := by
  rw [h]; rfl

theorem exec_eventIf_of {s : State} {can : Bool} (f : State → State) (h : can = true) (hp : s.power = .running) :
    (Host.Outcome.next (s.eventIf can f) : Host.Outcome State Fault Refusal) = .next (f s).finish := by
  rw [h, eventIf_true, event_of_running f hp]

/-- Settles O17: by the node's state, with the rules of the rise's end and of BACKFEED. -/
theorem goodTakenEndsTheRiseOrIsBackfeed : Obligations.GoodTakenEndsTheRiseOrIsBackfeed := by
  intro s rail
  refine ⟨fun h => exec_eventIf_of_not _ ?_, fun hp h => ⟨_, exec_eventIf_of _ ?_ hp, takeGood_tookGood s _⟩⟩
  · rwa [← Bool.not_eq_true, filterToward_iff]
  · rwa [filterToward_iff]

/-- Settles O18: by the node's state, with the rules of a fault and of the drain's end. -/
theorem goodFallsEndsTheDrainOrIsGoodLost : Obligations.GoodFallsEndsTheDrainOrIsGoodLost := by
  intro s rail
  refine ⟨fun h => exec_eventIf_of_not _ ?_, fun hp h => ⟨_, exec_eventIf_of _ ?_ hp, loseGood_lostGood s _⟩⟩
  · rwa [← Bool.not_eq_true, filterToward_iff]
  · rwa [filterToward_iff]

theorem state_timer_due_iff (s : State) (n : NodeId) (st : NodeState) (t : Option Nat) :
    (s.nodeState n == st && timerDue t) = true ↔ s.nodeState n = st ∧ t = some 0 := by
  simp

theorem state_timer_not_due {s : State} {n : NodeId} {st : NodeState} {t : Option Nat}
    (h : s.nodeState n ≠ st ∨ t ≠ some 0) : (s.nodeState n == st && timerDue t) = false := by
  rw [← Bool.not_eq_true, state_timer_due_iff]
  exact fun ⟨hst, ht⟩ => h.elim (· hst) (· ht)

/-- A retried rise: the record, the count, and the way down (R27, R100). -/
theorem riseTimeout_of_retry {s : State} {n : NodeId} (hst : s.nodeState n = .rising)
    (h : (s.node n).retry < (s.record n).retries.toNat) :
    s.logged (s.riseTimeout n) (s.recordOf .riseTimeout (some n) none .retried) ∧
      { s.riseTimeout n with nodes := s.nodes, budgetInUse := s.budgetInUse, ready := s.ready, faults := s.faults
                             retained := s.retained } = s ∧
      (∀ m, m ≠ n → (s.riseTimeout n).node m = s.node m) ∧
      (s.riseTimeout n).node n = { s.droppedRecord n with retry := (s.node n).retry + 1 } ∧
      (s.riseTimeout n).budgetInUse = s.budgetInUse - (s.node n).charge.getD 0 ∧
      (s.riseTimeout n).ready = if isGate n then s.ready.filter (fun x => x.node != n) else s.ready := by
  obtain ⟨f, r, hlog, hlogged⟩ := logFault_eq_withLog s .riseTimeout (some n) none .retried
  obtain ⟨u, hu⟩ : ∃ u, u = (s.withLog f r).setNode n { s.node n with retry := (s.node n).retry + 1 } := ⟨_, rfl⟩
  have hself : u.node n = { s.node n with retry := (s.node n).retry + 1 } := by rw [hu, node_setNode_self]
  have hother : ∀ m, m ≠ n → u.node m = s.node m := fun m hm => by rw [hu, node_setNode_of_ne _ _ hm]; rfl
  have hrecord : u.record n = s.record n := by rw [hu]; rfl
  have hbudget : u.budgetInUse = s.budgetInUse := by rw [hu]; rfl
  have hready : u.ready = s.ready := by rw [hu]; rfl
  have heq : s.riseTimeout n = u.drop n := by
    rw [State.riseTimeout, if_pos h, hlog, hu]
    rfl
  have hsame : (s.withLog f r).sameButNodes (s.riseTimeout n) := by
    rw [heq, hu]
    exact (setNode_sameButNodes _ n _).trans (drop_sameButNodes _ n)
  obtain ⟨hfaults, hretained⟩ := sameButNodes_log hsame
  have hrising : (u.nodeState n).energized = true := by
    rw [nodeState_eq, hself]
    exact (energized_iff _).2 (.inl hst)
  refine ⟨logged_congr hlogged hfaults hretained, congrArg (State.withLog · s.faults s.retained) hsame, ?_⟩
  rw [heq, drop_eq hrising]
  refine ⟨fun m hm => ?_, ?_, ?_, ?_⟩
  · rw [withNode_node_of_ne _ _ _ _ hm, hother m hm]
  · rw [withNode_node_self, State.droppedRecord, State.droppedRecord, hself, hrecord]
    split <;> rfl
  · rw [withNode_budgetInUse, State.budgetWithout, hself, hbudget]
  · rw [withNode_ready, State.readyAfterDrop, hready]

theorem riseTimeout_of_fault {s : State} {n : NodeId} (h : (s.record n).retries.toNat ≤ (s.node n).retry) :
    s.riseTimeout n = s.faultOnPolicy .riseTimeout n := by
  rw [State.riseTimeout, if_neg (Nat.not_lt.2 h)]

/-- Settles O19: by the good_mode that the rise began with, and for a SENSED one by its retry count. -/
theorem riseTimerExpiryEndsRetriesOrFails : Obligations.RiseTimerExpiryEndsRetriesOrFails := by
  intro s n
  refine ⟨fun h => exec_eventIf_of_not _ (state_timer_not_due h), fun hp hst ht => ?_⟩
  have hexec : exec (.riseTimerExpiry n) s = .next (s.expireRise n).finish :=
    exec_eventIf_of _ ((state_timer_due_iff s n .rising _).2 ⟨hst, ht⟩) hp
  refine ⟨fun hm => ⟨_, hexec, ?_⟩, fun hm hr => ⟨_, hexec, ?_⟩, fun hm hr => ⟨_, hexec, ?_⟩⟩
  · rw [State.expireRise, if_neg hm]
    exact enterSettling_riseEnded (by simp [hst])
  · rw [State.expireRise, if_pos hm]
    exact riseTimeout_of_retry hst hr
  · rw [State.expireRise, if_pos hm, riseTimeout_of_fault hr]
    exact faultOnPolicy_faultTaken s .riseTimeout (by simp [hst])

/-- Settles O20: the hold's end is the rule of a node that turns ON. -/
theorem settleHoldExpiryTurnsTheNodeOn : Obligations.SettleHoldExpiryTurnsTheNodeOn := by
  intro s n
  refine ⟨fun h => exec_eventIf_of_not _ (state_timer_not_due h), fun hp hst ht => ⟨_,
    exec_eventIf_of _ ((state_timer_due_iff s n .settling _).2 ⟨hst, ht⟩) hp, becomeOn_turnedOn (by simp [hst])⟩⟩

/-- Settles O21: by whether the drain was SENSED with good still present. -/
theorem fallTimerExpiryEndsTheDrainOrFails : Obligations.FallTimerExpiryEndsTheDrainOrFails := by
  intro s rail
  refine ⟨fun h => exec_eventIf_of_not _ (state_timer_not_due h), fun hp hst ht => ?_⟩
  have hexec : exec (.fallTimerExpiry rail) s = .next (s.expireFall (railNode rail)).finish :=
    exec_eventIf_of _ ((state_timer_due_iff s _ .draining _).2 ⟨hst, ht⟩) hp
  refine ⟨fun hm => ⟨_, hexec, ?_⟩, fun hm => ⟨_, hexec, ?_⟩⟩
  · rw [State.expireFall, if_pos hm]
    exact faultOnPolicy_faultTaken s .fallTimeout (by simp [hst])
  · rw [State.expireFall, if_neg hm]
    exact toOff_turnedOff (by simp [hst])

/-- Settles O22: the hold leg's timer has nothing left, or the command changes nothing. -/
theorem recycleHoldExpiryBeginsTheUpLeg : Obligations.RecycleHoldExpiryBeginsTheUpLeg := by
  intro s
  refine ⟨fun h => exec_eventIf_of_not _ ?_, fun hp hr ht => exec_eventIf_of _ ?_ hp⟩
  · rw [← Bool.not_eq_true, Bool.and_eq_true, beq_iff_eq, timerDue_iff]
    exact fun ⟨hr, ht⟩ => h.elim (· hr) (· ht)
  · rw [Bool.and_eq_true, beq_iff_eq, timerDue_iff]
    exact ⟨hr, ht⟩

end Sys2Proof.Machine

/-! # What the part does, step by step

Every command and every joint reaction as a chain of elementary events, each under the condition that it needs. An invariant is then shown for one event at a time. -/

namespace Sys2Proof.Machine

/-! ### Elementary events at the nodes -/

/-- Between `s` and `t` no node moves but from FAILED to OFF; charges stay, and timers run on or off as before. -/
structure State.NodesKept (s t : State) : Prop where
  state : ∀ n, t.nodeState n = s.nodeState n ∨ s.nodeState n = .failed ∧ t.nodeState n = .off
  charge : ∀ n, (t.node n).charge = (s.node n).charge
  timers : ∀ n, (t.node n).rise.isSome = (s.node n).rise.isSome ∧ (t.node n).hold.isSome = (s.node n).hold.isSome ∧
    (t.node n).fall.isSome = (s.node n).fall.isSome
  budget : t.budgetInUse = s.budgetInUse
  ready : t.ready = s.ready

/-- One state change of a node, or SHED as a whole, or every node down, each under the condition that it needs. -/
inductive NodesStep (s : State) : State → Prop
  /-- the nodes stay as they are, FAILED ones aside -/
  | look (t : State) (h : s.NodesKept t) : NodesStep s t
  /-- a wanted node without energy takes its place -/
  | place (n : NodeId) (st : NodeState) (hne : s.nodeState n ≠ st)
      (hfrom : s.nodeState n = .off ∨ s.nodeState n = .waiting ∨ s.nodeState n = .held ∨ s.nodeState n = .ready)
      (hto : st = .waiting ∨ st = .held ∨ st = .ready) (hhalted : s.plat.phase ≠ .halted) : NodesStep s (s.place n st)
  /-- a placed or draining node goes to OFF -/
  | off (n : NodeId) (hfrom : s.nodeState n = .waiting ∨ s.nodeState n = .held ∨ s.nodeState n = .ready ∨
      s.nodeState n = .draining) : NodesStep s (s.toOff n)
  /-- an energized node that none stands on goes down -/
  | drop (n : NodeId) (hfrom : (s.nodeState n).energized = true) (hfree : s.nodeState n = .on → s.heldUp n = false) :
      NodesStep s (s.drop n)
  /-- the head of the ready queue begins its rise, its prerequisites ON and its weight within the budget -/
  | grant (n : NodeId) (hfits : s.headFits n) (hused : s.nodeState n = .ready → (s.record n).used = true)
      (hon : s.nodeState n = .ready → ∀ q ∈ (s.record n).prereqs, s.nodeState q = .on) (hhalted : s.plat.phase ≠ .halted)
      (hsettled : s.nodeState n = .ready → s.plat.phase ≠ .settled) : NodesStep s (s.grantBegun n)
  /-- a rise ends -/
  | settling (n : NodeId) (hfrom : s.nodeState n = .rising) : NodesStep s (s.enterSettling n)
  /-- a hold ends -/
  | turnOn (n : NodeId) (hfrom : s.nodeState n = .settling) : NodesStep s (s.becomeOn n)
  /-- a node fails, and what stands on it goes down -/
  | shed (n : NodeId) (hfrom : s.nodeState n ≠ .failed) : NodesStep s (s.shed n)
  /-- every node is OFF or FAILED -/
  | allOff (t : State) (hnode : ∀ n, (t.nodeState n = .off ∨ t.nodeState n = .failed) ∧ (t.node n).charge = none ∧
      (t.node n).rise = none ∧ (t.node n).hold = none ∧ (t.node n).fall = none)
      (hbudget : t.budgetInUse = 0) (hready : t.ready = []) : NodesStep s t

/-! ### Elementary events -/

/-- `t` differs from `s` at most in fields that no law reads. -/
def State.unseenBy (s t : State) : Prop :=
  { t with
    inputs := s.inputs, uptime := s.uptime, address := s.address, staged := s.staged, loadedBank := s.loadedBank
    imageBad := s.imageBad, hostLock := s.hostLock, button := s.button, wakes := s.wakes, frame := s.frame
    pointer := s.pointer, transfer := s.transfer, lineChanges := s.lineChanges, freeCount := s.freeCount } = s

/-- A request that may reach the arbiter now: not of the supervisor, and within its port's quota (R78). -/
def State.mayArrive (s : State) (r : Request) : Prop :=
  r.source ≠ .watch ∧ ∀ p, r.source = Port.source p → s.quota p < 4

/-- The supervisor's decision on stage `k`, with its request (R144, R145). -/
def State.decided (s : State) (k : Nat) (a : FaultAction) : State :=
  let u : State := { s with monitor := s.monitor.afterDecision k a }
  match recoveryRequest a with
  | some r => u.arrive r
  | none => u

/-- The monitor once stage `j` is reached with stage `k` due (R142). -/
def State.monitorReached (s : State) (k j : Nat) : Monitor :=
  match s.active.plan.active[j + 1]? with
  | some g => { s.monitor with
      skipCount := s.monitor.skipCount + (j - k), state := .armed (j + 1), deadline := some g.deadlineMs }
  | none => { s.monitor with
      skipCount := s.monitor.skipCount + (j - k), state := .complete, deadline := none, recoveryCount := 0 }

/-- The rest of HALTED entry, the nodes being OFF or FAILED (R86, R109). -/
def State.haltedFrom (s : State) : State :=
  { s.flushQueue with
    plat := { s.plat with
      phase := .halted, target := none, via := none, recycle := none, exclusion := [], holdTimer := none
      trip := false, inFlight := none }
    idle := none }

/-- An elementary event of the running part. -/
inductive Event (s : State) : State → Prop
  | unseen (t : State) (h : s.unseenBy t) : Event s t
  | nodes (t : State) (h : NodesStep s t) (same : s.sameButNodes t) : Event s t
  | arrives (r : Request) (h : s.mayArrive r) : Event s (s.arrive r)
  | decided (k : Nat) (b : Byte) (h : s.monitor.watched = some k) : Event s (s.decided k (s.stageDecision b))
  | startHold (h : s.downOver) : Event s s.heldAt
  | viaSettle (v : Level) (h : s.settleDue) (hv : s.plat.via = some v) : Event s (s.viaSettledAt v)
  | settle (L : Level) (h : s.settleDue) (hv : s.plat.via = none) (hL : s.plat.target = some L) : Event s (s.settledAt L)
  | handForced (r : Request) (hr : s.queue.find? (fun q => q.kind == .forced) = some r) (ht : s.plat.trip = false)
      (hp : s.plat.phase ≠ .halted) :
      Event s (State.overtakenBy { s with queue := s.queue.filter fun q => q.source != r.source } r)
  | repair (h : s.plat.phase = .settled) : Event s s.repairing
  | takeHead (r : Request) (rest : List Request) (h : s.plat.phase = .settled) (hq : s.queue = r :: rest) :
      Event s (State.takenInSettled { s with queue := rest } r)
  | trip (L : Level) (h : L ≠ .run) : Event s (s.startTrip L)
  | halt (h : s.plat.trip = true) (hnodes : ∀ n, s.nodeState n = .off ∨ s.nodeState n = .failed) (hready : s.ready = []) :
      Event s s.haltedFrom
  | holdOver (h : s.plat.recycle = some .hold) :
      Event s { s with plat := { s.plat with recycle := some .up, holdTimer := none } }
  | unhalt (h : s.plat.phase = .halted) :
      Event s { s with plat := { s.plat with phase := .settled, settled := .deep, degraded := false, tripped := false } }
  | logs (r : FaultRecord) : Event s (s.storeFault r)
  | faultAcked (f : FaultRecord) (rest : List FaultRecord) (h : s.faults.log = f :: rest) :
      Event s { s with faults := { s.faults with log := rest, overflow := s.faults.overflow && !rest.isEmpty } }
  | posted (code : Word) (now : Dword) : Event s { s with monitor := s.monitor.logPost code now }
  | reached (k j : Nat) (h : s.monitor.state.due = some k) : Event s { s with monitor := s.monitorReached k j }
  | monitorSet (m : Monitor) (hstate : m.state = .idle ∨ m.state = .disabled) (hdeadline : m.deadline = none)
      (hlog : m.log = s.monitor.log) : Event s { s with monitor := m }
  | monitorHeld (m : Monitor) (h : m = { s.monitor with holding := m.holding }) : Event s { s with monitor := m }
  | completionAcked (p : Port) (c : Completion) (rest : List Completion) (h : s.completions.get p = c :: rest) :
      Event s { s with completions := s.completions.set p rest }
  | cancelled (p : Port) (tag : Byte) (h : ∃ r ∈ s.queue, Request.isOf r p tag = true) :
      Event s { s with
        queue := s.queue.filter fun r => !Request.isOf r p tag
        completions := s.completions.set p
          (s.completions.get p ++ [⟨tag, .cancelled, s.plat.settled, s.plat.degraded⟩]) }
  | retained (r : Retained) (hmark : r.mark = s.retained.mark) (hcheck : r.checkGood = true) : Event s { s with retained := r }
  | causes (c : PerPort Word)
      (h : ∀ p, s.causes.get p &&& ~~~eventCauseBits = 0 → c.get p &&& ~~~eventCauseBits = 0) :
      Event s { s with causes := c }
  | idleStops : Event s { s with idle := none }
  | ticked (h : s.power = .running) : Event s s.tickTimers
  | adopted (t : State) (h : s.carried t) (hp : s.plat.phase = .settled) (hf : s.staged.failure = none) : Event s t

/-- A chain of elementary events. -/
abbrev Reach : State → State → Prop := Relation.ReflTransGen fun s t => Event s t

theorem Event.reach {s t : State} (h : Event s t) : Reach s t := .single h

theorem Event.reach_eq {s t u : State} (h : Event s u) (heq : t = u) : Reach s t := heq ▸ h.reach

theorem Reach.of_eq {s t : State} (h : t = s) : Reach s t := h ▸ .refl

/-- A predicate that every elementary event keeps is kept by every chain. -/
theorem Reach.keeps {P : State → Prop} (hP : ∀ s t, Event s t → P s → P t) {s t : State} (h : Reach s t) (hs : P s) : P t := by
  induction h with
  | refl => exact hs
  | tail _ hstep ih => exact hP _ _ hstep ih

theorem reach_unseen {s t : State} (h : s.unseenBy t) : Reach s t := (Event.unseen t h).reach

theorem reach_nodes {s t : State} (h : NodesStep s t) (same : s.sameButNodes t) : Reach s t := (Event.nodes t h same).reach

/-- A chain for each element of a list is a chain for the whole list. -/
theorem reach_foldl {α : Type} (f : State → α → State) (hf : ∀ s a, Reach s (f s a)) (xs : List α) (s : State) :
    Reach s (xs.foldl f s) := by
  induction xs generalizing s with
  | nil => exact .refl
  | cons x xs ih => exact (hf s x).trans (ih _)

/-! ### The joint reaction as a chain -/

/-- In HALTED no node is wanted (R53, R54). -/
theorem not_halted_of_wanted {s : State} {n : NodeId} (h : s.wanted n = true) : s.plat.phase ≠ .halted := fun hp => by
  obtain ⟨-, -, L, hL, -⟩ := (wanted_iff s n).1 h
  rw [Platform.governing, hp] at hL
  cases hL

theorem reach_nodeTurn (s : State) (n : NodeId) : Reach s (s.nodeTurn n) := by
  have hsame := nodeTurn_sameButNodes s n
  cases hm : s.nodeMove n with
  | none => exact .of_eq (nodeTurn_of_none hm)
  | some m =>
    rw [nodeTurn_of_some hm] at hsame ⊢
    refine reach_nodes ?_ hsame
    have hplacement : s.placement n = .waiting ∨ s.placement n = .held ∨ s.placement n = .ready := by
      unfold State.placement
      dsimp only
      split_ifs <;> simp
    rcases (nodeMove_eq_some_iff s n m).1 hm with ⟨hst, hw, rfl⟩ | ⟨hst, -, rfl⟩ | ⟨hst, hw, hne, rfl⟩ | ⟨hst, hw, rfl⟩
    · exact .place n _ (fun e => placement_ne_off s n (e ▸ hst)) (.inl hst) hplacement (not_halted_of_wanted hw)
    · exact .off n (by tauto)
    · exact .place n _ (Ne.symm hne) (.inr hst) hplacement (not_halted_of_wanted hw)
    · refine .drop n ((energized_iff _).2 (hst.imp id (Or.imp id And.left))) fun hon => ?_
      simpa [hon] using hst

theorem reach_standstill (k : Nat) (s : State) : Reach s (State.standstill k s) := by
  induction k generalizing s with
  | zero => exact .refl
  | succ k ih =>
    unfold State.standstill
    split
    · exact .refl
    · exact (reach_foldl _ reach_nodeTurn allNodes s).trans (ih _)

/-- A move is made only outside HALTED, where the nodes stand still, and in its turn. -/
theorem nextMove_cases {s : State} {m : Move} (h : s.nextMove = some m) : s.plat.phase ≠ .halted ∧ s.still = true ∧
    ((m = .startHold ∧ s.downOver) ∨ (s.settles = some m) ∨ (s.nextRequest = some m) ∨
      (s.settles = none ∧ s.nextRequest = none ∧ ∃ n, s.headFits n ∧ m = .grant n)) := by
  unfold State.nextMove at h
  split at h
  · cases h
  · next hq =>
    simp only [not_or, Bool.not_eq_true, Bool.not_eq_false'] at hq
    refine ⟨hq.1, hq.2, ?_⟩
    split at h
    · next hd => exact .inl ⟨(Option.some.inj h).symm, (downLegEnds_iff s).1 hd⟩
    · split at h
      · next hs => exact .inr (.inl (hs.trans h))
      · next hs =>
        split at h
        · next hr => exact .inr (.inr (.inl (hr.trans h)))
        · next hr =>
          obtain ⟨n, hg, rfl⟩ := Option.map_eq_some_iff.1 h
          exact .inr (.inr (.inr ⟨hs, hr, n, (grantable_eq_some_iff s n).1 hg, rfl⟩))

theorem settles_cases {s : State} {m : Move} (h : s.settles = some m) : s.settleDue ∧
    ((∃ v, s.plat.via = some v ∧ m = .viaSettle v) ∨
      (s.plat.via = none ∧ ∃ L, s.plat.target = some L ∧ m = .settle L)) := by
  by_cases hd : s.settleDue
  · refine ⟨hd, ?_⟩
    cases hv : s.plat.via with
    | some v => exact .inl ⟨v, rfl, (Option.some.inj ((settles_of_via hd hv).symm.trans h)).symm⟩
    | none =>
      cases hL : s.plat.target with
      | some L => exact .inr ⟨rfl, L, rfl, (Option.some.inj ((settles_of_target hd hv hL).symm.trans h)).symm⟩
      | none =>
        rw [State.settles, if_pos ((settleDue_iff s).1 hd)] at h
        simp [hv, hL] at h
  · rw [settles_of_not_due hd] at h
    cases h

theorem nextRequest_cases {s : State} {m : Move} (h : s.nextRequest = some m) :
    (∃ r, s.queue.find? (fun q => q.kind == .forced) = some r ∧ s.plat.trip = false ∧ m = .handForced r) ∨
    (s.plat.phase = .settled ∧ m = .repair) ∨
    (s.plat.phase = .settled ∧ ∃ r rest, s.queue = r :: rest ∧ m = .takeHead r) := by
  by_cases hf : s.forcedDue
  · obtain ⟨ht, r, hr, hk⟩ := hf
    obtain ⟨q, hq⟩ := Option.isSome_iff_exists.1
      (List.find?_isSome.2 ⟨r, hr, by simpa using hk⟩ : (s.queue.find? fun q => q.kind == .forced).isSome = true)
    exact .inl ⟨q, hq, ht, (Option.some.inj ((nextRequest_of_forced ht hq).symm.trans h)).symm⟩
  · rw [nextRequest_of_not_forced hf] at h
    split at h
    · next hp =>
      split at h
      · obtain ⟨r, hr, rfl⟩ := Option.map_eq_some_iff.1 h
        obtain ⟨rest, hq⟩ := List.head?_eq_some_iff.1 hr
        exact .inr (.inr ⟨hp, r, rest, hq, rfl⟩)
      · exact .inr (.inl ⟨hp, (Option.some.inj h).symm⟩)
    · cases h

/-- A still READY node stands at its place: it is wanted, and its prerequisites are ON. -/
theorem ready_of_still {s : State} {n : NodeId} (h : s.still = true) (hr : s.nodeState n = .ready) :
    s.wanted n = true ∧ ∀ q ∈ (s.record n).prereqs, s.nodeState q = .on := by
  have hmove := (still_iff s).1 h n
  have hwanted : s.wanted n = true := by
    by_contra hw
    rw [(nodeMove_eq_some_iff s n .off).2 (.inr (.inl ⟨.inr (.inr hr), by simpa using hw, rfl⟩))] at hmove
    cases hmove
  have hplace : s.placement n = .ready := by
    by_contra hp
    rw [(nodeMove_eq_some_iff s n (.place (s.placement n))).2
      (.inr (.inr (.inl ⟨.inr (.inr hr), hwanted, by rwa [hr], rfl⟩)))] at hmove
    cases hmove
  refine ⟨hwanted, fun q hq => ?_⟩
  have hplaced := placement_placedAs s n
  rw [hplace, State.placedAs] at hplaced
  split at hplaced
  · cases hplaced
  · split at hplaced
    · cases hplaced
    · next hall => exact by_contra fun hne => hall ⟨q, hq, hne⟩

theorem used_of_memberOf {r : NodeRecord} {L : Level} (h : r.memberOf L = true) : r.used = true := by
  unfold NodeRecord.memberOf at h
  unfold NodeRecord.used
  cases hl : r.levelOf with
  | none => rw [hl] at h; cases h
  | some l => rfl

theorem used_of_wanted {s : State} {n : NodeId} (h : s.wanted n = true) : (s.record n).used = true := by
  obtain ⟨-, -, L, -, hm⟩ := (wanted_iff s n).1 h
  exact used_of_memberOf hm

/-- No node is READY where nothing is due in SETTLED. -/
theorem not_settled_of_ready {s : State} {n : NodeId} (h : s.still = true) (hr : s.nextRequest = none)
    (hready : s.nodeState n = .ready) : s.plat.phase ≠ .settled := fun hp => by
  obtain ⟨hall, -⟩ := ((nextRequest_eq_none_iff s).1 hr).2 hp
  have hconforms := (conforms_iff s _ n).1 ((allConform_of_settled hp).1 hall n)
    (used_of_wanted (ready_of_still h hready).1)
  rw [hready] at hconforms
  split at hconforms <;> simp at hconforms

theorem reach_applyMove {s : State} {m : Move} (h : s.nextMove = some m) : Reach s (s.applyMove m) := by
  obtain ⟨hp, hstill, hcases⟩ := nextMove_cases h
  rcases hcases with ⟨rfl, hd⟩ | hs | hr | ⟨-, hreq, n, hfits, rfl⟩
  · exact (Event.startHold hd).reach
  · obtain ⟨hdue, ⟨v, hv, rfl⟩ | ⟨hv, L, hL, rfl⟩⟩ := settles_cases hs
    · exact (Event.viaSettle v hdue hv).reach_eq (viaSettle_eq s v)
    · exact (Event.settle L hdue hv hL).reach_eq (settle_eq s L)
  · obtain ⟨r, hfind, ht, rfl⟩ | ⟨hset, rfl⟩ | ⟨hset, r, rest, hq, rfl⟩ := nextRequest_cases hr
    · have heq : s.applyMove (.handForced r) =
          State.overtakenBy { s with queue := s.queue.filter fun q => q.source != r.source } r :=
        takeForced_eq (forced_of_find hfind)
      exact (Event.handForced r hfind ht hp).reach_eq heq
    · exact (Event.repair hset).reach_eq (startRepair_eq s)
    · have heq : s.applyMove (.takeHead r) = State.takenInSettled { s with queue := rest } r := by
        rw [← take_eq_takenInSettled (s := { s with queue := rest }) r hset, State.applyMove, hq]
        rfl
      exact (Event.takeHead r rest hset hq).reach_eq heq
  · have hbegun : Reach s (s.grantBegun n) :=
      reach_nodes (.grant n hfits (fun h => used_of_wanted (ready_of_still hstill h).1)
        (fun h => (ready_of_still hstill h).2) hp (fun h => not_settled_of_ready hstill hreq h)) rfl
    refine hbegun.trans ?_
    rw [State.applyMove, grant_eq]
    split
    · exact reach_nodes (.settling n (grantBegun_nodeState s n)) (enterSettling_sameButNodes _ n)
    · exact .refl

theorem reach_react (k : Nat) (s : State) : Reach s (State.react k s) := by
  induction k generalizing s with
  | zero => exact .refl
  | succ k ih =>
    unfold State.react
    dsimp only
    split
    · exact reach_standstill _ s
    · next m hm => exact (reach_standstill _ s).trans ((reach_applyMove hm).trans (ih _))

theorem reach_abandonFrame (s : State) : Reach s s.abandonFrame := by
  unfold State.abandonFrame
  split
  · exact reach_unseen rfl
  · exact .refl

theorem reach_finish (s : State) : Reach s s.finish := (reach_react _ s).trans (reach_abandonFrame _)

/-- What a chain reaches, its joint reaction reaches. -/
theorem Reach.finish {s t : State} (h : Reach s t) : Reach s t.finish := h.trans (reach_finish t)

end Sys2Proof.Machine

/-! # The copy of a COMMIT

What an accepted COMMIT makes of the nodes, the budget, the monitor and the idle timer before the part reacts (R39, R95, R149, R157). -/

namespace Sys2Proof.Machine

/-! ### Sampling -/

/-- A live record once the sampling of its PG input has changed from `was` to `is` (R23, R39). -/
def NodeLive.resample (l : NodeLive) (was is : Bool) : NodeLive :=
  if was = is then l else { l with good := is && (l.state == .settling || l.state == .on), filter := none }

theorem carrySampling_eq (s : State) (old : ConfigSet) (n : NodeId) :
    s.carrySampling old n = s.setNode n ((s.node n).resample (sampledBy old n) (sampledBy s.active n)) := by
  unfold State.carrySampling NodeLive.resample
  cases sampledBy old n <;> cases sampledBy s.active n <;> simp [State.nodeState]

theorem nodup_allNodes : allNodes.Nodup := List.nodup_finRange 32

/-- A change at each node of a list, each by its own record, is one change at all of them. -/
theorem foldl_setNode (f : NodeId → NodeLive → NodeLive) (ns : List NodeId) (h : ns.Nodup) (s : State) :
    { ns.foldl (fun t n => t.setNode n (f n (t.node n))) s with nodes := s.nodes } = s ∧
      ∀ m, (ns.foldl (fun t n => t.setNode n (f n (t.node n))) s).node m = if m ∈ ns then f m (s.node m) else s.node m := by
  induction ns generalizing s with
  | nil => exact ⟨rfl, fun m => by simp⟩
  | cons n ns ih =>
    obtain ⟨hn, hns⟩ := List.nodup_cons.1 h
    obtain ⟨hframe, hnode⟩ := ih hns (s.setNode n (f n (s.node n)))
    rw [List.foldl_cons]
    refine ⟨congrArg (fun t : State => { t with nodes := s.nodes }) hframe, fun m => ?_⟩
    rw [hnode]
    by_cases hm : m = n
    · subst hm; simp [hn]
    · simp [hm, node_setNode_of_ne s _ hm]

theorem foldl_carrySampling (old new : ConfigSet) (ns : List NodeId) (s : State) (h : s.active = new) :
    ns.foldl (fun t n => t.carrySampling old n) s =
      ns.foldl (fun t n => t.setNode n ((t.node n).resample (sampledBy old n) (sampledBy new n))) s := by
  induction ns generalizing s with
  | nil => rfl
  | cons n ns ih => rw [List.foldl_cons, List.foldl_cons, ih _ (by rw [carrySampling_eq]; exact h), carrySampling_eq, h]

theorem state_eq_of_nodes {s t : State} (hframe : { s with nodes := t.nodes } = t) (hnode : ∀ n, s.node n = t.node n) : s = t := by
  have hnodes : s.nodes = t.nodes := Vector.ext fun i hi => hnode ⟨i, hi⟩
  rw [← hframe, ← hnodes]

theorem adopted_node (s : State) (n : NodeId) : s.adopted.node n = s.resampled n := by
  simp [State.adopted, State.node]

theorem resampled_eq (s : State) (n : NodeId) :
    s.resampled n = (s.node n).resample (sampledBy s.active n) (sampledBy s.staged n) := rfl

/-- The staged set in force, with its sampling. -/
theorem sampling_carried (s : State) :
    allNodes.foldl (fun t n => t.carrySampling s.active n) { s with active := s.staged } = s.adopted := by
  rw [foldl_carrySampling s.active s.staged allNodes _ rfl]
  obtain ⟨hframe, hnode⟩ := foldl_setNode (fun n l => l.resample (sampledBy s.active n) (sampledBy s.staged n)) allNodes
    nodup_allNodes { s with active := s.staged }
  generalize allNodes.foldl _ ({ s with active := s.staged } : State) = e at hframe hnode ⊢
  refine state_eq_of_nodes (congrArg (fun t : State => { t with nodes := s.adopted.nodes }) hframe) fun n => ?_
  rw [hnode, if_pos (mem_allNodes n), adopted_node, resampled_eq]
  rfl

@[simp] theorem resample_state (l : NodeLive) (was is : Bool) : (l.resample was is).state = l.state := by
  unfold NodeLive.resample; split <;> rfl

@[simp] theorem resample_charge (l : NodeLive) (was is : Bool) : (l.resample was is).charge = l.charge := by
  unfold NodeLive.resample; split <;> rfl

theorem adopted_nodeState (s : State) (n : NodeId) : s.adopted.nodeState n = s.nodeState n := by
  rw [nodeState_eq, adopted_node, resampled_eq, resample_state]; rfl

theorem adopted_charge (s : State) (n : NodeId) : (s.adopted.node n).charge = (s.node n).charge := by
  rw [adopted_node, resampled_eq, resample_charge]

/-! ### FAILED nodes made UNUSED, and nodes left without support -/

theorem carryFailed_releasing : Releasing State.carryFailed (fun s n => s.nodeState n == .failed && !(s.record n).used)
    (fun s n => (s.node n).settledIn .off) fun _ => true where
  idle s n h := by
    refine if_neg fun ⟨hst, hu⟩ => ?_
    simp [hst, hu] at h
  act s n h := by
    simp only [Bool.and_eq_true, beq_iff_eq] at h
    rw [State.carryFailed, if_pos h, toOff_eq (by simp [h.1])]
    rfl
  acts_local s e n hn ha := by simp only [State.nodeState, State.record, hn, ha]
  goes_local s e n hn _ := by rw [hn]
  once s e n _ hn := by simp [State.nodeState, hn, NodeLive.settledIn]

/-- The nodes have been carried across, from the adopted state `s` to `e`. -/
theorem failed_carried (s : State) : s.adopted.Released (allNodes.foldl State.carryFailed s.adopted) s.adoptClears
    (fun s n => (s.node n).settledIn .off) fun _ => true := by
  refine released_congr (released_foldl carryFailed_releasing allNodes s.adopted) fun m => ?_
  simp [mem_allNodes, adopted_nodeState, State.adoptClears]
  rfl

theorem adoptClears_not_energized {s : State} {n : NodeId} (h : s.adoptClears n = true) :
    s.nodeState n = .failed ∧ (s.nodeState n).energized = false := by
  simp only [State.adoptClears, Bool.and_eq_true, beq_iff_eq] at h
  exact ⟨h.1, by rw [h.1]; rfl⟩

/-- Up to FAILED becoming OFF, which nodes are energized and which are ON stays. -/
theorem carried_states {s u : State} (h : s.adopted.Released u s.adoptClears (fun s n => (s.node n).settledIn .off) fun _ => true)
    (n : NodeId) : (u.nodeState n).energized = (s.nodeState n).energized ∧ (u.nodeState n != .on) = (s.nodeState n != .on) := by
  rw [nodeState_eq u, h.node]
  cases hc : s.adoptClears n
  · simp [← nodeState_eq, adopted_nodeState]
  · obtain ⟨hst, -⟩ := adoptClears_not_energized hc
    simp [hst, NodeLive.settledIn, NodeState.energized]; rfl

theorem unsupported_eq {s u : State} (h : s.adopted.Released u s.adoptClears (fun s n => (s.node n).settledIn .off) fun _ => true) :
    u.unsupported = allNodes.filter fun m =>
      (s.nodeState m).energized && (s.staged.node m).prereqs.any fun q => s.nodeState q != .on := by
  have hactive : u.active = s.staged := sameButNodes_active h.same
  refine List.filter_congr fun m _ => ?_
  have hq : (fun q => u.nodeState q != .on) = fun q => s.nodeState q != .on := funext fun q => (carried_states h q).2
  rw [(carried_states h m).1, hq, State.record, hactive]

theorem takenDown_carried {s u : State} (h : s.adopted.Released u s.adoptClears (fun s n => (s.node n).settledIn .off) fun _ => true) :
    u.Released u.takeDownUnsupported s.adoptDrops State.droppedRecord isGate := by
  have hactive : u.active = s.staged := sameButNodes_active h.same
  refine released_congr (takeDown_all u _) fun m => ?_
  rw [State.taken, (carried_states h m).1, unsupported_eq h, hactive, Bool.and_comm]
  rfl

/-- The nodes, the budget and the ready queue after the copy (R39, R47). -/
theorem carryNodes_carried (s : State) :
    let e := State.carryNodes { s with active := s.staged } s.active
    s.adopted.sameButNodes e ∧ (∀ n, e.node n = s.adoptedRecord n) ∧
      e.budgetInUse = s.budgetInUse -
        (allNodes.map fun n => if s.adoptDrops n || s.adoptClears n then (s.node n).charge.getD 0 else 0).sum ∧
      e.ready = s.ready.filter fun x => !(s.adoptClears x.node || (s.adoptDrops x.node && isGate x.node)) := by
  intro e
  have hu := failed_carried s
  have he : e = (allNodes.foldl State.carryFailed s.adopted).takeDownUnsupported := by
    rw [← sampling_carried]; rfl
  generalize allNodes.foldl State.carryFailed s.adopted = u at hu he
  have hd := takenDown_carried hu
  rw [he]
  have hdrops : ∀ n, s.adoptDrops n = true → s.adoptClears n = false := fun n hn => by
    by_contra hc
    have hen := (adoptClears_not_energized ((Bool.not_eq_false _).mp hc)).2
    simp [State.adoptDrops, hen] at hn
  have hnode : ∀ n, s.adoptClears n = false → u.node n = s.adopted.node n := fun n hn => by rw [hu.node, hn]; rfl
  refine ⟨hu.same.trans hd.same, fun n => ?_, ?_, ?_⟩
  · rw [hd.node, State.adoptedRecord]
    cases hn : s.adoptDrops n
    · rw [hu.node]
      cases s.adoptClears n <;> simp [NodeLive.settledIn]
    · exact droppedRecord_congr (hnode n (hdrops n hn)) (sameButNodes_active hu.same)
  · rw [hd.budget, hu.budget, Nat.sub_sub]
    have hb : s.adopted.budgetInUse = s.budgetInUse := rfl
    rw [hb, sum_map_allNodes, nodeSum_add]
    refine congrArg (s.budgetInUse - ·) (nodeSum_congr fun n => ?_)
    cases hn : s.adoptDrops n
    · rw [adopted_charge]; simp
    · rw [hdrops n hn, hnode n (hdrops n hn), adopted_charge]; simp
  · rw [hd.ready, hu.ready, List.filter_filter]
    have hr : s.adopted.ready = s.ready := rfl
    rw [hr]
    refine List.filter_congr fun x _ => ?_
    cases s.adoptClears x.node <;> cases s.adoptDrops x.node <;> simp

/-! ### The monitor and the idle timer -/

theorem carryMonitor_eq (s : State) (old : ConfigSet) : s.carryMonitor old = { s with monitor :=
    (if (old.plan.count ≠ s.active.plan.count ∨ old.plan.active ≠ s.active.plan.active) ∧ s.monitor.state.due ≠ none then
      { s.monitor with state := .idle, deadline := none }
    else s.monitor) } := by
  unfold State.carryMonitor
  have hchanged : Plan.changed old.plan s.active.plan = true ↔
      (old.plan.count ≠ s.active.plan.count ∨ old.plan.active ≠ s.active.plan.active) := by
    simp [Plan.changed]
  simp only [← hchanged]
  cases Plan.changed old.plan s.active.plan <;> cases hm : s.monitor.state <;> simp [MonitorState.due]

theorem carryIdle_eq (s : State) : s.carryIdle = { s with idle :=
    (if s.active.policy.autoDeepDelay = 0 then none
    else if s.plat.phase = .settled ∧ s.plat.settled = .standby ∧ s.idle = none then some s.active.policy.autoDeepMs
    else s.idle) } := by
  unfold State.carryIdle
  split
  · rfl
  · next h => rw [startIdle_eq]; simp only [ne_eq, h, not_false_eq_true, true_and]

/-- The state of a COMMIT after its copy and before its reaction. -/
def State.copied (s : State) : State :=
  ((State.carryNodes { s with active := s.staged } s.active).carryMonitor s.active).carryIdle

theorem copied_carried (s : State) : s.carried s.copied := by
  obtain ⟨hsame, hnode, hbudget, hready⟩ := carryNodes_carried s
  unfold State.copied
  generalize State.carryNodes { s with active := s.staged } s.active = e at hsame hnode hbudget hready
  obtain ⟨nodes, budget, ready, rfl⟩ := sameButNodes_exists hsame
  rw [carryMonitor_eq, carryIdle_eq]
  exact ⟨rfl, rfl, hnode, hbudget, hready, rfl, rfl⟩

theorem adoptStaged_eq (s : State) :
    s.adoptStaged = ((s.copied.finish.carryWakes s.active).finish).lookAtAllPg := rfl

end Sys2Proof.Machine

/-! # Commands as chains of events

What each command does, written as elementary events and the few acts of the ports, the store and the supplies. -/

namespace Sys2Proof.Machine

/-! ### Nodes and faults -/

theorem reach_setNode {s : State} {n : NodeId} {l : NodeLive} (hstate : l.state = s.nodeState n)
    (hcharge : l.charge = (s.node n).charge) (hrise : l.rise.isSome = (s.node n).rise.isSome)
    (hhold : l.hold.isSome = (s.node n).hold.isSome) (hfall : l.fall.isSome = (s.node n).fall.isSome) :
    Reach s (s.setNode n l) := by
  refine reach_nodes (.look _ ⟨fun m => .inl ?_, fun m => ?_, fun m => ?_, rfl, rfl⟩) (setNode_sameButNodes s n l) <;>
    by_cases hm : m = n
  · subst hm; rw [nodeState_setNode_self, hstate]
  · rw [State.nodeState, node_setNode_of_ne s l hm]; rfl
  · subst hm; rw [node_setNode_self, hcharge]
  · rw [node_setNode_of_ne s l hm]
  · subst hm; rw [node_setNode_self]; exact ⟨hrise, hhold, hfall⟩
  · rw [node_setNode_of_ne s l hm]; exact ⟨rfl, rfl, rfl⟩

theorem reach_withGood (s : State) (n : NodeId) (good : Bool) : Reach s (s.withGood n good) :=
  reach_setNode rfl rfl rfl rfl rfl

theorem reach_withFilter (s : State) (n : NodeId) (i : Option Interval) :
    Reach s (s.setNode n { s.node n with filter := i }) :=
  reach_setNode rfl rfl rfl rfl rfl

theorem reach_logFault (s : State) (kind : FaultKind) (node : Option NodeId) (stage : Option Nat) (action : FaultAction) :
    Reach s (s.logFault kind node stage action) :=
  (Event.logs _).reach

theorem reach_backfeed (s : State) (n : NodeId) : Reach s (s.backfeed n) := by
  unfold State.backfeed
  split
  · exact .refl
  · exact (reach_logFault s _ _ _ _).trans (reach_setNode rfl rfl rfl rfl rfl)

theorem reach_shed {s : State} {n : NodeId} (h : s.nodeState n ≠ .failed) : Reach s (s.shed n) :=
  reach_nodes (.shed n h) (shed_sameButNodes s n)

theorem deenergizeAll_sameButNodes (s : State) : s.sameButNodes s.deenergizeAll := rfl

theorem deenergizeAll_node (s : State) (n : NodeId) : s.deenergizeAll.node n =
    { NodeLive.start with state := if s.nodeState n = .failed then .failed else .off } :=
  node_map { s with ready := [], budgetInUse := 0 } _ n

theorem deenergizeAll_state (s : State) (n : NodeId) :
    s.deenergizeAll.nodeState n = .off ∨ s.deenergizeAll.nodeState n = .failed := by
  rw [nodeState_eq, deenergizeAll_node]
  dsimp only
  split <;> simp

theorem allOff_deenergizeAll {s u : State} : NodesStep s u.deenergizeAll := by
  refine .allOff _ (fun n => ⟨deenergizeAll_state u n, ?_⟩) rfl rfl
  rw [deenergizeAll_node]
  exact ⟨rfl, rfl, rfl, rfl⟩

theorem enterHalted_eq_haltedFrom (s : State) : s.enterHalted =
    { s.deenergizeAll.haltedFrom with button := { s.button with state := .locked, longTimer := none } } := by
  unfold State.enterHalted State.haltedFrom
  rw [flushQueue_eq]
  rfl

theorem reach_halt {s : State} (n : NodeId) (ht : s.plat.trip = true) : Reach s (s.fail n).enterHalted := by
  have hsame := fail_sameButNodes s n
  have htrip : (s.fail n).deenergizeAll.plat.trip = true := by rw [← ht]; exact congrArg Platform.trip (sameButNodes_plat hsame)
  refine (reach_nodes (allOff_deenergizeAll (u := s.fail n)) (hsame.trans (deenergizeAll_sameButNodes _))).trans ?_
  refine ((Event.halt htrip (deenergizeAll_state _) rfl).reach).trans ?_
  rw [enterHalted_eq_haltedFrom]
  exact reach_unseen rfl

theorem reach_faultOnPolicy (s : State) (kind : FaultKind) {n : NodeId} (h : s.nodeState n ≠ .failed) :
    Reach s (s.faultOnPolicy kind n) := by
  have hlog := reach_logFault s kind (some n) none
  have hstate : ∀ a, (s.logFault kind (some n) none a).nodeState n ≠ .failed := fun a => by rw [logFault_frame]; exact h
  rcases actionAt_cases s n with ha | ha | ⟨ha, ht⟩
  · rw [faultOnPolicy_of_shed kind ha]
    exact (hlog _).trans (reach_shed (hstate _))
  · rw [faultOnPolicy_of_tripped kind ha]
    exact (hlog _).trans ((reach_shed (hstate _)).trans (Event.trip _ (effectiveTripLevel_ne_run s n)).reach)
  · rw [faultOnPolicy_of_halted kind ha]
    refine (hlog _).trans (reach_halt n ?_)
    rw [logFault_frame]
    exact ht

theorem reach_enterSettling {s : State} {n : NodeId} (h : s.nodeState n = .rising) : Reach s (s.enterSettling n) :=
  reach_nodes (.settling n h) (enterSettling_sameButNodes s n)

theorem reach_becomeOn {s : State} {n : NodeId} (h : s.nodeState n = .settling) : Reach s (s.becomeOn n) :=
  reach_nodes (.turnOn n h) (becomeOn_sameButNodes s n)

theorem reach_drained {s : State} {n : NodeId} (h : s.nodeState n = .draining) : Reach s (s.toOff n) :=
  reach_nodes (.off n (.inr (.inr (.inr h)))) (toOff_sameButNodes s n)

theorem reach_dropRising {s : State} {n : NodeId} (h : s.nodeState n = .rising) : Reach s (s.drop n) :=
  reach_nodes (.drop n (by rw [h]; rfl) (by simp [h])) (drop_sameButNodes s n)

theorem reach_riseTimeout {s : State} {n : NodeId} (h : s.nodeState n = .rising) : Reach s (s.riseTimeout n) := by
  unfold State.riseTimeout
  split
  · refine (reach_logFault s .riseTimeout (some n) none .retried).trans ?_
    have hstate : (s.logFault .riseTimeout (some n) none .retried).nodeState n = .rising := by rw [logFault_frame]; exact h
    generalize s.logFault .riseTimeout (some n) none .retried = u at hstate
    refine (reach_setNode (n := n) (l := { u.node n with retry := (u.node n).retry + 1 }) rfl rfl rfl rfl rfl).trans
      (reach_dropRising ?_)
    rw [nodeState_setNode_self]
    exact hstate
  · exact reach_faultOnPolicy s _ (by simp [h])

theorem reach_expireRise {s : State} {n : NodeId} (h : s.nodeState n = .rising) : Reach s (s.expireRise n) := by
  unfold State.expireRise
  split
  · exact reach_riseTimeout h
  · exact reach_enterSettling h

theorem reach_expireFall {s : State} {n : NodeId} (h : s.nodeState n = .draining) : Reach s (s.expireFall n) := by
  unfold State.expireFall
  split
  · exact reach_faultOnPolicy s _ (by simp [h])
  · exact reach_drained h

/-! ### The good input -/

theorem takeGood_cases (s : State) (n : NodeId) : s.takeGood n = s.withGood n true ∨
    (s.nodeState n = .rising ∧ s.takeGood n = (s.withGood n true).enterSettling n) ∨
    s.takeGood n = (s.withGood n true).backfeed n := by
  have htake : s.takeGood n = match (s.withGood n true).nodeState n with
      | .rising => if ((s.withGood n true).node n).mode = some .sensed then (s.withGood n true).enterSettling n
        else s.withGood n true
      | .off | .waiting | .held | .ready | .failed => (s.withGood n true).backfeed n
      | .settling | .on | .draining => s.withGood n true := rfl
  rw [htake, withGood_nodeState]
  cases hst : s.nodeState n
  case rising =>
    dsimp only
    split
    · exact .inr (.inl ⟨rfl, rfl⟩)
    · exact .inl rfl
  all_goals first
    | exact .inl rfl
    | exact .inr (.inr rfl)

theorem reach_takeGood (s : State) (n : NodeId) : Reach s (s.takeGood n) := by
  refine (reach_withGood s n true).trans ?_
  rcases takeGood_cases s n with h | ⟨hst, h⟩ | h <;> rw [h]
  · exact reach_enterSettling (by rw [withGood_nodeState, hst])
  · exact reach_backfeed _ n

theorem loseGood_cases (s : State) (n : NodeId) : s.loseGood n = s.withGood n false ∨
    ((s.nodeState n = .settling ∨ s.nodeState n = .on) ∧ s.loseGood n = (s.withGood n false).faultOnPolicy .goodLost n) ∨
    (s.nodeState n = .draining ∧ s.loseGood n = (s.withGood n false).toOff n) := by
  have hlose : s.loseGood n = match (s.withGood n false).nodeState n with
      | .settling | .on => (s.withGood n false).faultOnPolicy .goodLost n
      | .draining => if ((s.withGood n false).node n).mode = some .sensed then (s.withGood n false).toOff n
        else s.withGood n false
      | .off | .waiting | .held | .ready | .rising | .failed => s.withGood n false := rfl
  rw [hlose, withGood_nodeState]
  cases hst : s.nodeState n
  case draining =>
    dsimp only
    split
    · exact .inr (.inr ⟨rfl, rfl⟩)
    · exact .inl rfl
  all_goals first
    | exact .inl rfl
    | exact .inr (.inl ⟨by simp, rfl⟩)

theorem reach_loseGood (s : State) (n : NodeId) : Reach s (s.loseGood n) := by
  refine (reach_withGood s n false).trans ?_
  rcases loseGood_cases s n with h | ⟨hst, h⟩ | ⟨hst, h⟩ <;> rw [h]
  · exact reach_faultOnPolicy _ _ (by rw [withGood_nodeState]; rcases hst with e | e <;> simp [e])
  · exact reach_drained (by rw [withGood_nodeState, hst])

theorem reach_lookAtPg (s : State) (r : RailId) : Reach s (s.lookAtPg r) := by
  unfold State.lookAtPg
  dsimp only
  split
  · exact .refl
  split
  · exact reach_withFilter s _ none
  split
  · exact .refl
  split
  · split
    · exact (reach_takeGood s _).finish
    · exact (reach_loseGood s _).finish
  · exact reach_withFilter s _ _

theorem reach_lookAtAllPg (s : State) : Reach s s.lookAtAllPg := reach_foldl _ reach_lookAtPg allRails s

/-! ### Causes and requests -/

/-- The event causes (R180). -/
def Cause.isEvent (c : Cause) : Prop := c.word &&& ~~~eventCauseBits = 0

theorem raised_keeps {x w : Word} (hx : x &&& ~~~eventCauseBits = 0) (hw : w &&& ~~~eventCauseBits = 0) :
    (x ||| w) &&& ~~~eventCauseBits = 0 := by
  rw [BitVec.and_comm, BitVec.and_or_distrib_left, BitVec.and_comm _ x, BitVec.and_comm _ w, hx, hw]
  rfl

theorem reach_raise (s : State) (p : Port) {c : Cause} (hc : c.isEvent) : Reach s (s.raise p c) := by
  refine (Event.causes _ fun q hq => ?_).reach
  by_cases h : q = p
  · subst h
    rw [PerPort.get_set_self]
    exact raised_keeps hq hc
  · rwa [PerPort.get_set_of_ne _ _ h]

theorem reach_raiseBoth (s : State) {c : Cause} (hc : c.isEvent) : Reach s (s.raiseBoth c) :=
  (reach_raise s .host hc).trans (reach_raise _ .mgmt hc)

theorem isEvent_of_bit {c : Cause} (h : 3 ≤ c.bit) : c.isEvent := by
  cases c <;> first
    | (simp [Cause.bit] at h; done)
    | (unfold Cause.isEvent; decide)

theorem mayArrive_of_internal {s : State} {r : Request} (hw : r.source ≠ .watch) (hp : ∀ p, r.source ≠ Port.source p) :
    s.mayArrive r :=
  ⟨hw, fun p h => absurd h (hp p)⟩

theorem reach_arrive_internal {s : State} {r : Request} (hw : r.source ≠ .watch) (hp : ∀ p, r.source ≠ Port.source p) :
    Reach s (s.arrive r) :=
  (Event.arrives r (mayArrive_of_internal hw hp)).reach

/-! ### Wakes -/

theorem reach_setWake (s : State) (e : Fin 16) (w : WakeLive) : Reach s (s.setWake e w) := reach_unseen rfl

theorem reach_notifyWake (s : State) (acting : List (Fin 16)) : Reach s (s.notifyWake acting) := by
  have hwake : Cause.wake.isEvent := isEvent_of_bit (by decide)
  have hhost : Reach s (if acting.any fun e => (s.wakeEntry e).notifiesHost then s.raise .host .wake else s) := by
    split
    · exact reach_raise s .host hwake
    · exact .refl
  refine hhost.trans ?_
  unfold State.notifyWake
  dsimp only
  generalize (if acting.any fun e => (s.wakeEntry e).notifiesHost then s.raise .host .wake else s) = u
  split
  · exact reach_raise u .mgmt hwake
  · exact .refl

theorem reach_takeMatches (s : State) (es : List (Fin 16)) : Reach s (s.takeMatches es) := by
  unfold State.takeMatches
  dsimp only
  refine (reach_foldl (fun t e => t.setWake e ((t.wakeLive e).matched t.uptime)) (fun t e => reach_setWake t e _) es s).trans ?_
  refine (reach_notifyWake _ (es.filter s.actsOnMatch)).trans ?_
  split
  · exact .refl
  · exact reach_arrive_internal (by simp [wakeRequest]) (fun p => by cases p <;> simp [wakeRequest, Port.source])

theorem reach_takeEdges (s : State) (es : List (Fin 16)) (high : Fin 16 → Bool) : Reach s (s.takeEdges es high) :=
  (reach_foldl (fun t e => t.setWake e { t.wakeLive e with level := some (high e), filter := none })
    (fun t e => reach_setWake t e _) es s).trans (reach_takeMatches _ _)

theorem reach_lookAtWake (s : State) (change : Option Nat) (e : Fin 16) : Reach s (s.lookAtWake change e) := by
  unfold State.lookAtWake
  dsimp only
  split
  · exact reach_setWake s e _
  split
  · exact reach_setWake s e _
  · exact .refl

theorem reach_lookAtWakes (s : State) (change : Option Nat) (es : List (Fin 16)) : Reach s (s.lookAtWakes change es) :=
  (reach_foldl _ (fun t e => reach_lookAtWake t change e) _ s).trans (reach_takeEdges _ _ _)

theorem reach_startWatching (s : State) (es : List (Fin 16)) : Reach s (s.startWatching es) :=
  (reach_foldl _ (fun t e => reach_setWake t e _) es s).trans (reach_lookAtWakes _ _ _)

theorem reach_endWakeInterval (s : State) (e : Fin 16) : Reach s (s.endWakeInterval e) := by
  unfold State.endWakeInterval
  split
  · exact .refl
  · exact reach_takeEdges _ _ _

theorem reach_clearWakeEntry (s : State) (e : Fin 16) : Reach s (s.clearWakeEntry e) := by
  unfold State.clearWakeEntry
  dsimp only
  refine (reach_setWake s e { s.wakeLive e with pending := false }).trans ?_
  split
  · exact reach_takeMatches _ _
  · exact .refl

/-! ### Button and idle timer -/

theorem reach_lookAtPbtn (s : State) : Reach s s.lookAtPbtn := by
  unfold State.lookAtPbtn
  dsimp only
  split
  · exact reach_unseen rfl
  split
  · exact .refl
  · exact reach_unseen rfl

theorem reach_button_arrive {s : State} (k : Kind) (L : Level) : Reach s (s.arrive (buttonRequest k L)) :=
  reach_arrive_internal (by simp [buttonRequest]) (fun p => by cases p <;> simp [buttonRequest, Port.source])

theorem reach_shortPress (s : State) : Reach s s.shortPress := by
  unfold State.shortPress
  split
  · exact reach_button_arrive _ _
  · exact reach_raiseBoth s (isEvent_of_bit (by decide))

theorem reach_withButton (s : State) (b : Button) : Reach s { s with button := b } := reach_unseen rfl

theorem reach_takePress (s : State) : Reach s s.takePress := by
  unfold State.takePress
  dsimp only
  refine (reach_withButton s { s.button with pressed := true, filter := none }).trans ?_
  split
  · exact reach_withButton _ _
  all_goals exact .refl

theorem reach_takeRelease (s : State) : Reach s s.takeRelease := by
  unfold State.takeRelease
  dsimp only
  refine (reach_withButton s { s.button with pressed := false, filter := none }).trans ?_
  split
  · split
    · exact .refl
    · exact reach_withButton _ _
  · exact (reach_withButton _ _).trans (reach_shortPress _)
  · exact reach_withButton _ _
  · exact .refl

theorem reach_takeLongPress (s : State) : Reach s s.takeLongPress :=
  (reach_withButton s { s.button with state := .long, longTimer := none }).trans (reach_button_arrive _ _)

theorem reach_idleExpiry (s : State) : Reach s (State.arrive { s with idle := none } idleRequest) :=
  (Event.idleStops).reach.trans
    (reach_arrive_internal (by simp [idleRequest]) (fun p => by cases p <;> simp [idleRequest, Port.source]))

/-! ### The progress supervisor -/

theorem reach_missStage {s : State} {k : Nat} (h : s.monitor.watched = some k) : Reach s (s.missStage k) := by
  have hframe := logFault_frame s .stageExpiry none (some k)
    (s.stageDecision ((s.active.plan.active[k]?.map Stage.action).getD 0))
  refine (reach_logFault s .stageExpiry none (some k)
    (s.stageDecision ((s.active.plan.active[k]?.map Stage.action).getD 0))).trans ?_
  unfold State.missStage
  dsimp only
  generalize (s.active.plan.active[k]?.map Stage.action).getD 0 = b at hframe ⊢
  generalize s.logFault .stageExpiry none (some k) (s.stageDecision b) = u at hframe
  have hwatched : u.monitor.watched = some k := by rw [hframe]; exact h
  have hdecision : u.stageDecision b = s.stageDecision b := by rw [hframe]; rfl
  have hevent := Event.decided k b hwatched
  rw [hdecision] at hevent
  exact hevent.reach

theorem reachStage_eq (s : State) (k j : Nat) :
    s.reachStage k j = State.raiseBoth { s with monitor := s.monitorReached k j } .checkpoint := by
  unfold State.reachStage State.monitorReached
  cases s.active.plan.active[j + 1]? <;> rfl

theorem reach_reachStage {s : State} {k : Nat} (j : Nat) (h : s.monitor.state.due = some k) : Reach s (s.reachStage k j) := by
  rw [reachStage_eq]
  exact (Event.reached k j h).reach.trans (reach_raiseBoth _ (c := .checkpoint) (isEvent_of_bit (by decide)))

theorem reach_takePost (s : State) (high : Byte) : Reach s (s.takePost high) := by
  unfold State.takePost
  dsimp only
  refine (Event.posted (high ++ s.monitor.holding) s.uptime).reach.trans ?_
  split
  · exact .refl
  · next k hk =>
    split
    · next j _ => exact reach_reachStage j hk
    · exact .refl

/-! ### Configuration, halts, start -/

theorem reach_clearFailures (s : State) : Reach s s.clearFailures := by
  have hnode : ∀ n, s.clearFailures.node n = (s.node n).clearFailed := node_map s NodeLive.clearFailed
  refine reach_nodes (.look _ ⟨fun n => ?_, fun n => ?_, fun n => ?_, rfl, rfl⟩) (clearFailures_sameButNodes s)
  · rw [nodeState_eq s.clearFailures, hnode, NodeLive.clearFailed]
    split
    · next h => exact .inr ⟨h, rfl⟩
    · exact .inl rfl
  all_goals
    rw [hnode, NodeLive.clearFailed]
    split
  · rfl
  · rfl
  · exact ⟨rfl, rfl, rfl⟩
  · exact ⟨rfl, rfl, rfl⟩

theorem reach_retainLevel (s : State) (L : Level) : Reach s (s.retainLevel L) :=
  (Event.retained { s.retained with lastSettled := some L, checkGood := true } rfl rfl).reach

theorem reach_leaveHalted {s : State} (h : s.plat.phase = .halted) : Reach s s.leaveHalted := by
  refine (Event.unhalt h).reach.trans ((reach_withButton _ s.button.afterClearHalt).trans ?_)
  exact (reach_retainLevel _ .deep).trans ((reach_clearFailures _).trans (reach_lookAtAllPg _))

theorem reach_carryWake (s : State) (old : ConfigSet) (e : Fin 16) : Reach s (s.carryWake old e) := by
  unfold State.carryWake
  dsimp only
  split
  · exact reach_setWake s e _
  split
  · exact .refl
  · exact reach_setWake s e _

theorem reach_carryWakes (s : State) (old : ConfigSet) : Reach s (s.carryWakes old) :=
  (reach_foldl _ (fun t e => reach_carryWake t old e) allEntries s).trans (reach_startWatching _ _)

theorem reach_adoptStaged {s : State} (hp : s.plat.phase = .settled) (hf : s.staged.failure = none) :
    Reach s s.adoptStaged := by
  rw [adoptStaged_eq]
  refine (Event.adopted _ (copied_carried s) hp hf).reach.trans ?_
  exact (Reach.finish ((reach_finish _).trans (reach_carryWakes _ _))).trans (reach_lookAtAllPg _)

theorem reach_startInputs (s : State) : Reach s s.startInputs :=
  (reach_lookAtAllPg s).trans ((reach_startWatching _ _).trans (reach_lookAtPbtn _))

end Sys2Proof.Machine

/-! # A step as a chain of events and acts

The events leave the ports, the supplies and the image banks alone; what does touch them is a handful of acts. A step is a chain of both, so that a law need only be shown for each. -/

namespace Sys2Proof.Machine

/-! ### What every event leaves unchanged -/

/-- The supply phase, the mailboxes and masks, the image banks, the running STORE and the command queue. -/
def State.standing (s : State) : Power × Bool × PerPort Mailbox × PerPort Word × Bank × Bank × Option StoreJob × List Instr :=
  (s.power, s.stepFour, s.mailbox, s.masks, s.bank0, s.bank1, s.storeJob, s.pending)

theorem standing_of_outside {s t : State} (h : t.outside = s.outside) : t.standing = s.standing :=
  congrArg (f := State.standing) (a₁ := t.outside) (a₂ := s.outside) h

theorem standing_of_sameButNodes {s t : State} (h : s.sameButNodes t) : t.standing = s.standing := by
  obtain ⟨nodes, budget, ready, rfl⟩ := sameButNodes_exists h
  rfl

theorem standing_of_unseenBy {s t : State} (h : s.unseenBy t) : t.standing = s.standing :=
  (congrArg State.standing (show _ = s from h) :)

theorem storeFault_standing (s : State) (r : FaultRecord) : (s.storeFault r).standing = s.standing := by
  unfold State.storeFault
  split <;> rfl

theorem decided_outside (s : State) (k : Nat) (a : FaultAction) : (s.decided k a).outside =
    ({ s with monitor := s.monitor.afterDecision k a } : State).outside := by
  unfold State.decided
  split
  · exact arrive_outside _ _
  · rfl

theorem takenInSettled_standing (s : State) (r : Request) : (s.takenInSettled r).standing = s.standing := by
  unfold State.takenInSettled
  split <;> rfl

theorem Event.standing_eq {s t : State} (h : Event s t) : t.standing = s.standing := by
  cases h
  case unseen h => exact standing_of_unseenBy h
  case nodes same => exact standing_of_sameButNodes same
  case arrives r _ => exact standing_of_outside (arrive_outside s r)
  case decided k b _ =>
    have houtside := congrArg State.standing (decided_outside s k (s.stageDecision b))
    exact houtside
  case takeHead => exact takenInSettled_standing _ _
  case trip L _ => exact standing_of_outside (startTrip_outside s L)
  case halt => exact standing_of_outside (flushQueue_outside s)
  case logs r => exact storeFault_standing s r
  case adopted _ _ hc =>
    have hrest := congrArg State.standing hc.1
    exact hrest
  all_goals rfl

theorem Reach.standing_eq {s t : State} (h : Reach s t) : t.standing = s.standing := by
  induction h with
  | refl => rfl
  | tail _ hstep ih => exact hstep.standing_eq.trans ih

theorem standing_mailbox {s t : State} (h : t.standing = s.standing) : t.mailbox = s.mailbox :=
  congrArg (fun x => x.2.2.1) h

theorem standing_pending {s t : State} (h : t.standing = s.standing) : t.pending = s.pending :=
  congrArg (fun x => x.2.2.2.2.2.2.2) h

theorem standing_power {s t : State} (h : t.standing = s.standing) : t.power = s.power :=
  congrArg (fun x => x.1) h

/-! ### Acts -/

/-- An event, or an act of the ports, the store, the supplies or the load. -/
inductive Act (s : State) : State → Prop
  | event (t : State) (h : Event s t) : Act s t
  | mail (p : Port) (m : Mailbox) (h : m.status = (s.mailbox.get p).status) : Act s (s.setMailbox p m)
  | answers (p : Port) (r : Result) (d : Detail) (h : (s.mailbox.get p).status ≠ .busy) : Act s (s.replyDetail p r d)
  | masked (m : PerPort Word) (h : ∀ p, s.masks.get p &&& ~~~causeBits = 0 → m.get p &&& ~~~causeBits = 0) :
      Act s { s with masks := m }
  | stores : Act s s.storeCommand
  | stored (crcMatches : Bool) (j : StoreJob) (h : s.storeJob = some j) : Act s (s.finishStore crcMatches j)
  | loads : Act s s.loadImage.checkRetained.startBlocks
  | standbyGoes (vbat : Bool) : Act s (s.standbyGoes vbat)
  | nrstFalls (h : s.power.started = true) : Act s { s.stopEverything with power := .resetInterval }
  | standbyArrives (adr1 adr0 : Bool) (h : s.power = .unpowered) : Act s (s.standbyArrives adr1 adr0)
  | starts (adr1 adr0 : Bool) (h : s.power = .resetInterval) : Act s (s.startEvent adr1 adr0)
  | recordLost (h : s.power = .unpowered) : Act s s.loseRetained

/-- A chain of events and acts. -/
abbrev Acts : State → State → Prop := Relation.ReflTransGen fun s t => Act s t

theorem Act.acts {s t : State} (h : Act s t) : Acts s t := .single h

theorem Reach.acts {s t : State} (h : Reach s t) : Acts s t := Relation.ReflTransGen.mono (p := fun s t => Act s t) (fun _ _ h => Act.event _ h) s t h

theorem acts_unseen {s t : State} (h : s.unseenBy t) : Acts s t := (reach_unseen h).acts

theorem acts_ite {c : Prop} [Decidable c] {s t u : State} (ht : Acts s t) (hu : Acts s u) : Acts s (if c then t else u) := by
  split
  · exact ht
  · exact hu

theorem Acts.finish {s t : State} (h : Acts s t) : Acts s t.finish := h.trans (reach_finish t).acts

/-- A predicate that every event and every act keeps is kept by every chain. -/
theorem Acts.keeps {P : State → Prop} (hP : ∀ s t, Act s t → P s → P t) {s t : State} (h : Acts s t) (hs : P s) : P t := by
  induction h with
  | refl => exact hs
  | tail _ hstep ih => exact hP _ _ hstep ih

/-! ### How a command ends -/

/-- A command ends in the joint reaction, outside the running part, or in a state that is as quiet as the one it found. -/
inductive Ends (s : State) : State → Prop
  | reacts (u : State) (h : Acts s u) : Ends s u.finish
  | stops (t : State) (h : Acts s t) (hp : t.power ≠ .running) : Ends s t
  | stands (t : State) (h : Acts s t) (hp : t.power = s.power) (hq : s.quiet → t.quiet) : Ends s t

theorem Ends.acts {s t : State} (h : Ends s t) : Acts s t := by
  cases h
  case reacts h => exact h.finish
  case stops h _ => exact h
  case stands h _ _ => exact h

theorem Ends.refl (s : State) : Ends s s := .stands s .refl rfl id

/-- What goes before and leaves the part as quiet as it was changes nothing in how the command ends. -/
theorem Ends.after {s u t : State} (h : Ends u t) (hacts : Acts s u) (hp : u.power = s.power) (hq : s.quiet → u.quiet) :
    Ends s t := by
  cases h
  case reacts v hv => exact .reacts v (hacts.trans hv)
  case stops ht hpt => exact .stops t (hacts.trans ht) hpt
  case stands ht hpt hqt => exact .stands t (hacts.trans ht) (hpt.trans hp) fun h => hqt (hq h)

/-! ### Events and bytes -/

theorem ends_event {s : State} {f : State → State} (hf : Acts s (f s)) : Ends s (s.event f) := by
  unfold State.event
  split
  · exact .reacts _ hf
  · exact .refl s

theorem ends_eventIf {s : State} {can : Bool} {f : State → State} (hf : can = true → Acts s (f s)) : Ends s (s.eventIf can f) := by
  unfold State.eventIf
  split
  · next h => exact ends_event (hf h)
  · exact .refl s

theorem reach_afterByte (s : State) (p : Port) (addr : Word) : Reach s (s.afterByte p addr) := by
  cases p <;> exact reach_unseen rfl

theorem reach_afterRead (s : State) (p : Port) (addr : Word) : Reach s (s.afterRead p addr) := by
  cases p <;> exact reach_unseen rfl

theorem ends_byteEvent {s : State} {p : Port} {addr : Word} {f : State → State} (hf : ∀ u, Acts u (f u)) :
    Ends s (s.byteEvent p addr f) := by
  unfold State.byteEvent
  split
  · exact .reacts _ ((reach_afterByte s p addr).acts.trans (hf _))
  · exact .refl s

theorem ends_readEvent {s : State} {p : Port} {addr : Word} {f : State → State} (hf : ∀ u, Acts u (f u)) :
    Ends s (s.readEvent p addr f) := by
  unfold State.readEvent
  split
  · exact .reacts _ ((reach_afterRead s p addr).acts.trans (hf _))
  · exact .refl s

/-! ### Commands -/

/-- The port answers at the end of a chain of events that it began without being BUSY. -/
theorem acts_replyDetail {s t : State} {p : Port} (h : Reach s t) (hb : (s.mailbox.get p).status ≠ .busy) (r : Result)
    (d : Detail) : Acts s (t.replyDetail p r d) :=
  h.acts.tail (.answers p r d (by rwa [standing_mailbox h.standing_eq]))

theorem acts_reply {s t : State} {p : Port} (h : Reach s t) (hb : (s.mailbox.get p).status ≠ .busy) (r : Result) :
    Acts s (t.reply p r) :=
  acts_replyDetail h hb r _

theorem ends_commandByte {s : State} {p : Port} {code : Byte} {body : State → State}
    (hbody : ∀ u, (u.mailbox.get p).status ≠ .busy → Acts u (body u)) : Ends s (s.commandByte p code body) := by
  refine ends_byteEvent fun u => ?_
  split
  · exact (reach_raise u p (isEvent_of_bit (by decide : 3 ≤ Cause.overrun.bit))).acts
  · next hb =>
    have hmail := Act.mail (s := u) p { u.mailbox.get p with command := code } rfl
    refine hmail.acts.trans (hbody _ ?_)
    rwa [setMailbox_mailbox, PerPort.get_set_self]

theorem acts_mgmtOnly {s : State} {p : Port} {body : State → State} (hb : (s.mailbox.get p).status ≠ .busy)
    (hbody : (s.mailbox.get .mgmt).status ≠ .busy → Acts s (body s)) : Acts s (s.mgmtOnly p body) := by
  cases p with
  | host => exact acts_reply .refl hb _
  | mgmt => exact hbody hb

theorem ends_mgmtCommand {s : State} {p : Port} {code : Byte} {body : State → State}
    (hbody : ∀ u, (u.mailbox.get .mgmt).status ≠ .busy → Acts u (body u)) : Ends s (s.mgmtCommand p code body) :=
  ends_commandByte fun u hb => acts_mgmtOnly hb (hbody u)

section
variable {s : State} {p : Port}

theorem mayArrive_of_check {r : Request} (h : s.checkSubmit p = .ok r) : s.mayArrive r := by
  unfold State.checkSubmit at h
  split at h
  · cases h
  next r' hr =>
    split_ifs at h with _ _ _ hq
    cases h
    have hsource : r.source = Port.source p := by
      unfold State.submitted at hr
      split at hr
      · cases hr
        cases p <;> rfl
      · cases hr
    refine ⟨by rw [hsource]; cases p <;> simp [Port.source], fun q hpq => ?_⟩
    have : q = p := by
      rw [hsource] at hpq
      cases p <;> cases q <;> simp_all [Port.source]
    subst this
    omega

theorem acts_submitCommand (hb : (s.mailbox.get p).status ≠ .busy) : Acts s (s.submitCommand p) := by
  unfold State.submitCommand
  split
  · exact acts_reply .refl hb _
  · next r hr => exact acts_reply (Event.arrives r (mayArrive_of_check hr)).reach hb _

theorem acts_cancelCommand (hb : (s.mailbox.get p).status ≠ .busy) : Acts s (s.cancelCommand p) := by
  by_cases h : ∃ r ∈ s.queue, Request.isOf r p (s.arg p 0) = true
  · rw [cancelCommand_of_queued rfl (by simpa only [isOf_iff] using h)]
    have hcancel := (Event.cancelled p (s.arg p 0) h).reach
    exact acts_reply hcancel hb .ok
  · have hnone : s.queue.find? (fun r => Request.isOf r p (s.arg p 0)) = none := by simpa using h
    unfold State.cancelCommand
    dsimp only
    rw [hnone]
    dsimp only
    split <;> exact acts_reply .refl hb _

theorem acts_ackCompletionCommand (hb : (s.mailbox.get p).status ≠ .busy) : Acts s (s.ackCompletionCommand p) := by
  unfold State.ackCompletionCommand
  split
  · exact acts_reply .refl hb _
  · next c rest hc =>
    split
    · exact acts_reply (Event.completionAcked p c rest hc).reach hb _
    · exact acts_reply .refl hb _

theorem acts_ackFaultCommand (hb : (s.mailbox.get p).status ≠ .busy) : Acts s (s.ackFaultCommand p) := by
  unfold State.ackFaultCommand
  split
  · exact acts_reply .refl hb _
  · next f rest hf =>
    split
    · exact acts_reply (Event.faultAcked f rest hf).reach hb _
    · exact acts_reply .refl hb _

theorem acts_clearWakeCommand (hb : (s.mailbox.get p).status ≠ .busy) : Acts s (s.clearWakeCommand p) := by
  unfold State.clearWakeCommand
  dsimp only
  split
  · exact acts_reply (reach_clearWakeEntry s _) hb _
  · exact acts_reply .refl hb _

end

section
variable {s : State} (hb : (s.mailbox.get .mgmt).status ≠ .busy)
include hb

theorem acts_commitCommand : Acts s s.commitCommand := by
  unfold State.commitCommand
  split
  · exact acts_reply .refl hb _
  next hp =>
    split
    · exact acts_replyDetail .refl hb _ _
    next hf =>
      split
      · exact acts_replyDetail .refl hb _ _
      · exact acts_reply (reach_adoptStaged (not_not.1 hp) hf) hb _

theorem acts_clearFaultsCommand : Acts s s.clearFaultsCommand := by
  unfold State.clearFaultsCommand
  split
  · exact acts_reply .refl hb _
  · exact acts_reply (reach_clearFailures s) hb _

theorem acts_clearHaltCommand : Acts s s.clearHaltCommand := by
  unfold State.clearHaltCommand
  split
  · next h => exact acts_reply (reach_leaveHalted h) hb _
  · exact acts_reply .refl hb _

theorem acts_monitorOnCommand : Acts s s.monitorOnCommand :=
  acts_reply (Event.monitorSet { s.monitor with
    state := .idle, deadline := none, recoveryCount := 0, skipCount := 0 } (.inl rfl) rfl rfl).reach hb _

theorem acts_monitorOffCommand : Acts s s.monitorOffCommand :=
  acts_reply (Event.monitorSet { s.monitor with state := .disabled, deadline := none } (.inr rfl) rfl rfl).reach hb _

theorem acts_setBselCommand : Acts s s.setBselCommand := by
  unfold State.setBselCommand
  dsimp only
  split
  · exact acts_reply .refl hb _
  split
  · exact acts_reply .refl hb _
  · exact acts_reply
      (Event.retained { s.retained with bsel := s.arg .mgmt 0 == 1, checkGood := true } rfl rfl).reach hb _

theorem acts_hostLockCommand : Acts s s.hostLockCommand := by
  have hlock : ∀ b, Reach s { s with hostLock := b } := fun b => reach_unseen rfl
  unfold State.hostLockCommand
  dsimp only
  split
  · exact acts_reply (hlock false) hb _
  split
  · exact acts_reply (hlock true) hb _
  · exact acts_reply .refl hb _

theorem acts_clearRetainedCommand : Acts s s.clearRetainedCommand :=
  acts_reply (Event.retained { s.retained with firstFault := none, lost := false, checkGood := true } rfl rfl).reach hb _

end

/-- Whatever command a code names, it is a chain at a port that is not BUSY. -/
theorem acts_takeCommand {s : State} {p : Port} (hb : (s.mailbox.get p).status ≠ .busy) (code : Byte) :
    Acts s (s.takeCommand p code) := by
  unfold State.takeCommand
  refine acts_ite (acts_submitCommand hb) (acts_ite (acts_cancelCommand hb) (acts_ite (acts_ackCompletionCommand hb)
    (acts_ite (acts_ackFaultCommand hb) (acts_ite (acts_clearWakeCommand hb) ?_))))
  refine acts_ite (acts_mgmtOnly hb acts_commitCommand) (acts_ite (acts_mgmtOnly hb fun _ => Act.stores.acts)
    (acts_ite (acts_mgmtOnly hb acts_clearFaultsCommand) (acts_ite (acts_mgmtOnly hb acts_clearHaltCommand) ?_)))
  refine acts_ite (acts_mgmtOnly hb acts_monitorOnCommand) (acts_ite (acts_mgmtOnly hb acts_monitorOffCommand)
    (acts_ite (acts_mgmtOnly hb acts_setBselCommand) ?_))
  exact acts_ite (acts_mgmtOnly hb acts_hostLockCommand) (acts_ite (acts_mgmtOnly hb acts_clearRetainedCommand)
    (acts_reply .refl hb _))

/-! ### Bytes written and read -/

theorem reach_acknowledge (s : State) (p : Port) (high : Bool) (v : Byte) : Reach s (s.acknowledge p high v) := by
  refine (Event.causes _ fun q hq => ?_).reach
  by_cases h : q = p
  · subst h
    rw [PerPort.get_set_self, BitVec.and_assoc, BitVec.and_comm (~~~_), ← BitVec.and_assoc, hq]
    exact BitVec.zero_and
  · rwa [PerPort.get_set_of_ne _ _ h]

theorem acts_writeMask (s : State) (p : Port) (high : Bool) (v : Byte) : Acts s (s.writeMask p high v) := by
  refine (Act.masked _ fun q hq => ?_).acts
  by_cases h : q = p
  · subst h
    rw [PerPort.get_set_self, BitVec.and_assoc]
    have hbits : causeBits &&& ~~~causeBits = 0 := by decide
    rw [hbits]
    exact BitVec.and_zero
  · rwa [PerPort.get_set_of_ne _ _ h]

theorem reach_holding (s : State) (v : Byte) : Reach s { s with monitor := { s.monitor with holding := v } } :=
  (Event.monitorHeld _ rfl).reach

theorem reach_violation (s : State) (p : Port) : Reach s (s.raise p .violation) :=
  reach_raise s p (isEvent_of_bit (by decide : 3 ≤ Cause.violation.bit))

theorem acts_writeArg (s : State) (p : Port) (addr : Word) (v : Byte) : Acts s (s.writeArg p addr v) :=
  (Act.mail (s := s) p { s.mailbox.get p with
    args := (s.mailbox.get p).args.set (Fin.ofNat 16 (addr.toNat - 0x0010)).val v (Fin.ofNat 16 (addr.toNat - 0x0010)).isLt }
    rfl).acts

theorem acts_writeLocation (s : State) (p : Port) (addr : Word) (v : Byte) : Acts s (s.writeLocation p addr v) := by
  unfold State.writeLocation
  split; · exact acts_writeArg s p addr v
  split; · exact acts_unseen rfl
  split; · exact (reach_acknowledge s p _ v).acts
  split; · exact acts_writeMask s p _ v
  split; · exact (reach_holding s v).acts
  split; · exact (reach_takePost s v).acts
  exact (reach_violation s p).acts

/-! ### Every command is a chain -/

theorem ends_vbatLoss {s t : State} (h : execVbatLoss s = .next t) : Ends s t := by
  cases h
  have hpin : Acts s { s with inputs := { s.inputs with vbat := false } } := acts_unseen rfl
  split
  · next hp =>
    refine .stops _ (hpin.trans (Act.recordLost hp).acts) fun hr => ?_
    have hne : Power.unpowered = Power.running := hp.symm.trans hr
    cases hne
  · exact .stands _ hpin rfl fun h => h

theorem ends_nrstFall {s t : State} (h : execNrstFall s = .next t) : Ends s t := by
  cases h
  have hpin : Acts s { s with inputs := { s.inputs with nrstHigh := false } } := acts_unseen rfl
  split
  · next hp => exact .stops _ (hpin.trans (Act.nrstFalls hp).acts) nofun
  · exact .stands _ hpin rfl fun h => h

theorem ends_nrstRelease {s t : State} {adr1 adr0 : Bool} (h : execNrstRelease adr1 adr0 s = .next t) : Ends s t := by
  cases h
  have hpin : Acts s { s with inputs := { s.inputs with nrstHigh := true } } := acts_unseen rfl
  split
  · next hp => exact .stops _ (hpin.trans (Act.starts adr1 adr0 hp).acts) nofun
  · exact .stands _ hpin rfl fun h => h

theorem ends_standbyArrives {s : State} (adr1 adr0 : Bool) (h : s.power = .unpowered) : Ends s (s.standbyArrives adr1 adr0) := by
  refine .stops _ (Act.standbyArrives adr1 adr0 h).acts ?_
  unfold State.standbyArrives
  dsimp only
  split <;> nofun

theorem ends_standbyGoes (s : State) (vbat : Bool) : Ends s (s.standbyGoes vbat) := by
  refine .stops _ (Act.standbyGoes vbat).acts ?_
  cases vbat <;> nofun

theorem ends_completeLoad (s : State) : Ends s s.completeLoad := by
  have hstart : Acts s s.loadImage.checkRetained.startBlocks.startInputs := Act.loads.acts.trans (reach_startInputs _).acts
  unfold State.completeLoad State.resume
  split
  · next T _ =>
    exact .reacts _ (hstart.finish.trans (reach_arrive_internal (r := resumeRequest T) nofun fun p => by cases p <;> nofun).acts)
  · exact .reacts _ hstart

theorem ends_event_pin {s : State} {i : Inputs} {f : State → State} (hf : ∀ u, Reach u (f u)) :
    Ends s (State.event { s with inputs := i } f) :=
  (ends_event (hf _).acts).after (acts_unseen rfl) rfl fun h => h

theorem ends_storeCompletion {s : State} (crcMatches : Bool) : Ends s (s.eventIf s.storeJob.isSome fun s =>
    match s.storeJob with
    | some j => s.finishStore crcMatches j
    | none => s) := by
  refine ends_eventIf fun _ => ?_
  split
  · next j hj => exact (Act.stored crcMatches j hj).acts
  · exact .refl

theorem ends_endTransfer (s : State) (sent : Word) : Ends s (s.endTransfer sent) := by
  unfold State.endTransfer
  split
  · exact .stands _ (acts_unseen rfl) rfl fun h => h
  · exact .refl s

theorem frameOf_taken_live {s : State} (header : Option FrameHeader) (h : s.atRest = true) :
    ({ s with frame := if s.hostLive then frameOf header else .ignored } : State).quiet := by
  refine ⟨h, fun htaken => ?_⟩
  have hlive : s.hostLive = true := by
    by_contra hinert
    rw [if_neg hinert] at htaken
    cases htaken
  exact hlive

theorem ends_frameStart {s t : State} {header : Option FrameHeader} (h : execFrameStart s header = .next t) : Ends s t := by
  cases h
  split
  · exact .stands _ (acts_unseen rfl) rfl fun hq => frameOf_taken_live header hq.1
  · exact .refl s

theorem ends_exec {c : Instr} {s t : State} (h : exec c s = .next t) : Ends s t := by
  cases c <;> cases h
  case standbyPowerArrival adr1 adr0 =>
    split
    · next hp => exact ends_standbyArrives adr1 adr0 hp
    · exact .refl s
  case standbyPowerLoss vbat =>
    split
    · exact .refl s
    · exact ends_standbyGoes s vbat
  case vbatLoss => exact ends_vbatLoss rfl
  case nrstFall => exact ends_nrstFall rfl
  case nrstRelease => exact ends_nrstRelease rfl
  case loadCompletion =>
    split
    · exact ends_completeLoad s
    · exact .refl s
  case uptimeWrap =>
    split
    · exact .stands _ (acts_unseen rfl) rfl fun h => h
    · exact .refl s
  case pgChange rail high => exact ends_event_pin fun u => reach_lookAtPg u rail
  case goodTaken => exact ends_eventIf fun _ => (reach_takeGood s _).acts
  case goodFalls => exact ends_eventIf fun _ => (reach_loseGood s _).acts
  case riseTimerExpiry =>
    exact ends_eventIf fun hc => (reach_expireRise (beq_iff_eq.1 (Bool.and_eq_true_iff.1 hc).1)).acts
  case settleHoldExpiry =>
    exact ends_eventIf fun hc => (reach_becomeOn (beq_iff_eq.1 (Bool.and_eq_true_iff.1 hc).1)).acts
  case fallTimerExpiry =>
    exact ends_eventIf fun hc => (reach_expireFall (beq_iff_eq.1 (Bool.and_eq_true_iff.1 hc).1)).acts
  case recycleHoldExpiry =>
    exact ends_eventIf fun hc => (Event.holdOver (beq_iff_eq.1 (Bool.and_eq_true_iff.1 hc).1)).reach.acts
  case pbtnChange => exact ends_event_pin reach_lookAtPbtn
  case press => exact ends_eventIf fun _ => (reach_takePress s).acts
  case release => exact ends_eventIf fun _ => (reach_takeRelease s).acts
  case longPress => exact ends_eventIf fun _ => (reach_takeLongPress s).acts
  case idleTimerExpiry => exact ends_eventIf fun _ => (reach_idleExpiry s).acts
  case wakeLineChange line high =>
    refine ends_event_pin fun u => ?_
    have hcount : Reach u { u with lineChanges := u.lineChanges + 1 } := reach_unseen rfl
    exact hcount.trans (reach_lookAtWakes _ _ _)
  case wakeDebounceExpiry entry => exact ends_eventIf fun _ => (reach_endWakeInterval s entry).acts
  case deadlineExpiry =>
    refine ends_eventIf fun _ => ?_
    split
    · next k hk => exact (reach_missStage hk).acts
    · exact .refl
  case postLowByte => exact ends_byteEvent fun u => (reach_holding u _).acts
  case post => exact ends_byteEvent fun u => (reach_takePost u _).acts
  case submit => exact ends_commandByte fun _ hb => acts_submitCommand hb
  case cancel => exact ends_commandByte fun _ hb => acts_cancelCommand hb
  case ackCompletion => exact ends_commandByte fun _ hb => acts_ackCompletionCommand hb
  case ackFault => exact ends_commandByte fun _ hb => acts_ackFaultCommand hb
  case clearWake => exact ends_commandByte fun _ hb => acts_clearWakeCommand hb
  case commit => exact ends_mgmtCommand fun _ hb => acts_commitCommand hb
  case store => exact ends_mgmtCommand fun _ _ => Act.stores.acts
  case storeCompletion => exact ends_storeCompletion _
  case clearFaults => exact ends_mgmtCommand fun _ hb => acts_clearFaultsCommand hb
  case clearHalt => exact ends_mgmtCommand fun _ hb => acts_clearHaltCommand hb
  case monitorOn => exact ends_mgmtCommand fun _ hb => acts_monitorOnCommand hb
  case monitorOff => exact ends_mgmtCommand fun _ hb => acts_monitorOffCommand hb
  case setBsel => exact ends_mgmtCommand fun _ hb => acts_setBselCommand hb
  case hostLock => exact ends_mgmtCommand fun _ hb => acts_hostLockCommand hb
  case clearRetained => exact ends_mgmtCommand fun _ hb => acts_clearRetainedCommand hb
  case unknownCommand p code => exact ends_commandByte fun _ hb => acts_takeCommand hb code
  case causeAcknowledge p high v => exact ends_byteEvent fun u => (reach_acknowledge u p high v).acts
  case maskWrite p high v => exact ends_byteEvent fun u => acts_writeMask u p high v
  case registerWrite p addr v =>
    split
    · exact ends_commandByte fun _ hb => acts_takeCommand hb v
    · exact ends_byteEvent fun u => acts_writeLocation u p addr v
  case forbiddenRead p addr =>
    refine ends_readEvent fun u => ?_
    split
    · exact (reach_violation u p).acts
    · exact .refl
  case busTimeout sent => exact ends_endTransfer s sent
  case transferStop sent => exact ends_endTransfer s sent
  case frameStart => exact ends_frameStart rfl
  case frameEnd => exact .stands _ (acts_unseen rfl) rfl fun h => ⟨h.1, nofun⟩
  case registerPointerSet addr =>
    split
    · exact .stands _ (acts_unseen rfl) rfl fun h => h
    · exact .refl s

theorem acts_exec {c : Instr} {s t : State} (h : exec c s = .next t) : Acts s t := (ends_exec h).acts

theorem acts_tick (s : State) : Acts s s.tick := by
  unfold State.tick
  split
  · exact .refl
  · exact .refl
  · exact acts_unseen rfl
  · next hp =>
    have hup : Reach s.tickTimers { s.tickTimers with uptime := s.uptime + 1 } := reach_unseen rfl
    exact (Event.ticked hp).reach.acts.trans hup.acts

/-- A predicate that every event and every act keeps, and that does not read the command queue, is kept by every step. -/
theorem step_keeps {P : State → Prop} (hP : ∀ s t, Act s t → P s → P t) (hqueue : ∀ s q, P s → P (s.withPending q))
    {s t : State} (h : step s = .next t) (hs : P s) : P t := by
  unfold step at h
  split at h
  · next c rest _ => exact (acts_exec h).keeps hP (hqueue s rest hs)
  · cases h
    exact (acts_tick s).keeps hP hs

end Sys2Proof.Machine

/-! # The retained record, the mailboxes and the causes

Every event and every act keeps the laws of the blocks beside the sequencing. -/

namespace Sys2Proof.Machine

/-! ### What an arrival can be -/

/-- The idle timer after a request has been accepted (R95). -/
def State.idleRestarted (s : State) : Option Nat := s.idle.map fun _ => s.active.policy.autoDeepMs

/-- The entry of the request's source in the queue. -/
def State.olderThan (s : State) (r : Request) : Option Request := s.queue.find? fun q => q.source == r.source

/-- The cases of an arrival (R75, R80 to R82). -/
inductive State.Arrived (s : State) (r : Request) : State → Prop
  | discarded (hp : s.plat.phase = .halted) : s.Arrived r s
  | joins (hp : s.plat.phase ≠ .halted) (hk : r.kind = .normal) (hold : s.olderThan r = none) :
      s.Arrived r { s with queue := s.queue ++ [r], idle := s.idleRestarted }
  | merges (hp : s.plat.phase ≠ .halted) (hk : r.kind = .normal) (q : Request) (hold : s.olderThan r = some q) :
      s.Arrived r { s with idle := s.idleRestarted }
  | replaces (hp : s.plat.phase ≠ .halted) (hk : r.kind = .normal) (q : Request) (hold : s.olderThan r = some q) :
      s.Arrived r { s with
        queue := s.queue.map fun q => if q.source = r.source then r else q
        completions := s.ended [q] .superseded, monitor := s.monitor.afterLoss [q], idle := s.idleRestarted }
  | waits (hp : s.plat.phase ≠ .halted) (hk : r.kind = .forced) (ht : s.plat.trip = true) :
      s.Arrived r { s with
        queue := s.queue.filter (fun q => q.source != r.source) ++ [r]
        completions := s.ended (s.olderThan r).toList .superseded
        monitor := s.monitor.afterLoss (s.olderThan r).toList, idle := s.idleRestarted }
  | overtakes (hp : s.plat.phase ≠ .halted) (hk : r.kind = .forced) (ht : s.plat.trip = false) :
      s.Arrived r (s.overtakenBy r)

theorem arrived (s : State) (r : Request) : s.Arrived r (s.arrive r) := by
  obtain ⟨hhalted, hjoin, hmerge, hreplace, hwait, hovertake⟩ := arrivalsJoinReplaceMergeOrOvertake s r
  by_cases hp : s.plat.phase = .halted
  · rw [hhalted hp]; exact .discarded hp
  cases hk : r.kind with
  | forced =>
    cases ht : s.plat.trip with
    | true => rw [hwait hp hk ht]; exact .waits hp hk ht
    | false => rw [hovertake hp hk ht]; exact .overtakes hp hk ht
  | normal =>
    cases hold : s.olderThan r with
    | none => rw [hjoin hp hk hold]; exact .joins hp hk hold
    | some q =>
      by_cases hm : r.source = .wake ∧ r.target.rank ≤ q.target.rank
      · rw [hmerge hp hk hm.1 q hold hm.2]; exact .merges hp hk q hold
      · rw [hreplace hp hk q hold fun hw => Nat.not_le.1 fun hle => hm ⟨hw, hle⟩]; exact .replaces hp hk q hold

/-! ### What the requests leave unchanged -/

/-- `s` with everything blanked that an arrival, a take or a trip may change. -/
def State.besideRequests (s : State) : State :=
  { s with
    plat := Platform.start, queue := [], idle := none, completions := ⟨[], []⟩
    monitor := { s.monitor with state := .disabled, deadline := none } }

theorem afterLoss_same (m : Monitor) (rs : List Request) :
    { m.afterLoss rs with state := m.state } = m := by
  unfold Monitor.afterLoss
  split <;> rfl

theorem afterLeaving_same (m : Monitor) : { m.afterLeaving with state := m.state, deadline := m.deadline } = m := by
  unfold Monitor.afterLeaving
  split <;> rfl

/-- The monitor with its state and deadline blanked. -/
def Monitor.records (m : Monitor) : Monitor := { m with state := .disabled, deadline := none }

theorem afterLoss_records (m : Monitor) (rs : List Request) : (m.afterLoss rs).records = m.records :=
  (congrArg Monitor.records (afterLoss_same m rs) :)

theorem afterLeaving_records (m : Monitor) : m.afterLeaving.records = m.records :=
  (congrArg Monitor.records (afterLeaving_same m) :)

theorem besideRequests_withMonitor {s t : State} (h : t.monitor.records = s.monitor.records)
    (hrest : { t with
      plat := s.plat, queue := s.queue, idle := s.idle, completions := s.completions, monitor := s.monitor } = s) :
    t.besideRequests = s.besideRequests := by
  have hblank : { t.besideRequests with monitor := s.monitor.records } = s.besideRequests :=
    (congrArg State.besideRequests hrest :)
  rw [← h] at hblank
  exact hblank

theorem startedFor_besideRequests (s : State) (r : Request) : (s.startedFor r).besideRequests = s.besideRequests := by
  refine besideRequests_withMonitor ?_ rfl
  unfold State.startedFor
  dsimp only
  split
  · exact afterLeaving_records _
  · rfl

theorem overtakenBy_besideRequests (s : State) (r : Request) : (s.overtakenBy r).besideRequests = s.besideRequests :=
  (startedFor_besideRequests _ r).trans (besideRequests_withMonitor (afterLoss_records _ _) rfl)

theorem takenInSettled_besideRequests (s : State) (r : Request) :
    (s.takenInSettled r).besideRequests = s.besideRequests := by
  unfold State.takenInSettled
  split
  · rfl
  · exact startedFor_besideRequests s r

theorem arrive_besideRequests (s : State) (r : Request) : (s.arrive r).besideRequests = s.besideRequests := by
  have harr := arrived s r
  generalize s.arrive r = t at harr ⊢
  cases harr
  case replaces => exact besideRequests_withMonitor (afterLoss_records _ _) rfl
  case waits => exact besideRequests_withMonitor (afterLoss_records _ _) rfl
  case overtakes => exact overtakenBy_besideRequests s r
  all_goals rfl

theorem startTrip_besideRequests {s : State} {L : Level} (h : L ≠ .run) :
    (s.startTrip L).besideRequests = s.besideRequests := by
  rw [startTrip_eq h]
  exact besideRequests_withMonitor ((afterLeaving_records _).trans (afterLoss_records _ _)) rfl

theorem haltedFrom_besideRequests (s : State) : s.haltedFrom.besideRequests = s.besideRequests := by
  unfold State.haltedFrom
  rw [flushQueue_eq]
  exact besideRequests_withMonitor (afterLoss_records _ _) rfl

theorem decided_besideRequests (s : State) (k : Nat) (a : FaultAction) : (s.decided k a).besideRequests =
    ({ s with monitor := s.monitor.afterDecision k a } : State).besideRequests := by
  unfold State.decided
  dsimp only
  split
  · exact arrive_besideRequests _ _
  · rfl

/-! ### The retained record -/

/-- Validity of the retained record is only gained: its mark stays, and every write makes its check good (R164, R165). -/
theorem Event.retained_valid {s t : State} (h : Event s t) (hv : s.retained.valid = true) : t.retained.valid = true := by
  have hgood : ∀ r : Retained, r.mark = s.retained.mark → r.checkGood = true → r.valid = true := fun r hm hc => by
    unfold Retained.valid at hv ⊢
    rw [hm, (Bool.and_eq_true_iff.1 hv).1, hc]
    rfl
  have hsame : ∀ {t : State}, t.retained = s.retained → t.retained.valid = true := fun ht => ht ▸ hv
  cases h
  case unseen ht => exact hsame (congrArg State.retained ht :)
  case nodes same => exact hsame (sameButNodes_log same).2
  case arrives r _ => exact hsame (congrArg State.retained (arrive_besideRequests s r) :)
  case decided k b _ => exact hsame (congrArg State.retained (decided_besideRequests s k (s.stageDecision b)) :)
  case takeHead r rest _ _ => exact hsame (congrArg State.retained (takenInSettled_besideRequests { s with queue := rest } r) :)
  case trip L hL => exact hsame (congrArg State.retained (startTrip_besideRequests (s := s) hL) :)
  case halt => exact hsame (congrArg State.retained (haltedFrom_besideRequests s) :)
  case viaSettle => exact hgood _ rfl rfl
  case settle => exact hgood _ rfl rfl
  case retained r hm hc => exact hgood r hm hc
  case logs r =>
    unfold State.storeFault
    split
    · dsimp only
      split
      · exact hgood _ rfl rfl
      · exact hv
    · exact hv
  case adopted _ _ hc => exact hsame (congrArg State.retained hc.1 :)
  all_goals exact hv


/-- What starts the part again, or stops it, keeps the retained record valid once step 4 has been reached (R164, R166). -/
theorem checkRetained_valid (s : State) : s.checkRetained.retained.valid = true := by
  unfold State.checkRetained
  dsimp only
  split
  · next h => exact h
  · rfl

theorem cutStore_eq (s : State) : ∃ b0 b1 n, s.cutStore = { s with bank0 := b0, bank1 := b1, freeCount := n, storeJob := none } := by
  unfold State.cutStore
  split
  · next h => exact ⟨s.bank0, s.bank1, s.freeCount, by rw [← h]⟩
  · next j _ =>
    unfold State.tearBank State.setBank
    cases j.target <;> exact ⟨_, _, _, rfl⟩

theorem stopEverything_retained (s : State) : s.stopEverything.retained = s.retained := by
  obtain ⟨b0, b1, n, h⟩ := cutStore_eq s.deenergizeAll
  unfold State.stopEverything
  rw [h]
  rfl

theorem stopEverything_stepFour (s : State) : s.stopEverything.stepFour = s.stepFour := by
  obtain ⟨b0, b1, n, h⟩ := cutStore_eq s.deenergizeAll
  unfold State.stopEverything
  rw [h]
  rfl

theorem standing_stepFour {s t : State} (h : t.standing = s.standing) : t.stepFour = s.stepFour :=
  congrArg (fun x => x.2.1) h

theorem Act.retainedLaw {s t : State} (h : Act s t) (hs : s.retainedLaw) : t.retainedLaw := by
  obtain ⟨hrunning, hunpowered, hvalid⟩ := hs
  cases h
  case event h =>
    have hpower := standing_power h.standing_eq
    have hfour := standing_stepFour h.standing_eq
    refine ⟨fun hp => ?_, fun hp => ?_, fun hf => h.retained_valid (hvalid ?_)⟩
    · rw [hfour]; exact hrunning (hpower ▸ hp)
    · rw [hfour]; exact hunpowered (hpower ▸ hp)
    · rwa [← hfour]
  case loads => exact ⟨fun _ => rfl, nofun, fun _ => checkRetained_valid s.loadImage⟩
  case standbyGoes vbat => cases vbat <;> exact ⟨nofun, fun _ => rfl, nofun⟩
  case nrstFalls =>
    refine ⟨nofun, nofun, fun hf => ?_⟩
    rw [stopEverything_retained]
    exact hvalid ((stopEverything_stepFour s).symm.trans hf)
  case standbyArrives =>
    unfold State.standbyArrives
    dsimp only
    split <;> exact ⟨nofun, nofun, nofun⟩
  case starts => exact ⟨nofun, nofun, hvalid⟩
  case recordLost hp =>
    have hfour := hunpowered hp
    refine ⟨hrunning, hunpowered, fun hf => ?_⟩
    rw [State.loseRetained, hfour] at hf
    cases hf
  case stored crcMatches j _ =>
    unfold State.finishStore
    dsimp only
    cases crcMatches <;> cases j.target <;> exact ⟨hrunning, hunpowered, hvalid⟩
  case stores =>
    unfold State.storeCommand
    cases s.storeTarget <;> exact ⟨hrunning, hunpowered, hvalid⟩
  all_goals exact ⟨hrunning, hunpowered, hvalid⟩

/-! ### The mailboxes -/

theorem Act.mailboxLaw {s t : State} (h : Act s t) (hs : s.mailboxLaw) : t.mailboxLaw := by
  have hstopped : ∀ {t : State}, t.power ≠ .running → t.mailboxLaw := fun hp hr => absurd hr hp
  cases h
  case event h =>
    have heq := h.standing_eq
    intro hp
    have hmail := standing_mailbox heq
    have hjob : t.storeJob = s.storeJob := congrArg (fun x => x.2.2.2.2.2.2.1) heq
    rw [hmail, hjob]
    exact hs (standing_power heq ▸ hp)
  case mail p m hm =>
    intro hp
    obtain ⟨hhost, hmgmt⟩ := hs hp
    cases p
    · exact ⟨fun hb => hhost (hm ▸ hb), hmgmt⟩
    · have hstatus : m.status = .busy ↔ s.mailbox.mgmt.status = .busy := iff_of_eq (congrArg (· = .busy) hm)
      exact ⟨hhost, hstatus.trans hmgmt⟩
  case answers p r d hb =>
    intro hp
    obtain ⟨hhost, hmgmt⟩ := hs hp
    cases p
    · exact ⟨nofun, hmgmt⟩
    · refine ⟨hhost, iff_of_false nofun fun hj => hb (hmgmt.2 hj)⟩
  case masked => exact hs
  case stores =>
    intro hp
    unfold State.storeCommand at hp ⊢
    cases htarget : s.storeTarget <;> rw [htarget] at hp <;> exact ⟨(hs hp).1, iff_of_true rfl rfl⟩
  case stored crcMatches j _ =>
    intro hp
    unfold State.finishStore at hp ⊢
    dsimp only at hp ⊢
    cases crcMatches <;> cases htarget : j.target <;> rw [htarget] at hp <;> exact ⟨(hs hp).1, iff_of_false nofun nofun⟩
  case loads => exact fun _ => ⟨nofun, iff_of_false nofun nofun⟩
  case standbyGoes vbat => cases vbat <;> exact hstopped nofun
  case nrstFalls => exact hstopped nofun
  case standbyArrives =>
    unfold State.standbyArrives
    dsimp only
    split <;> exact hstopped nofun
  case starts => exact hstopped nofun
  case recordLost hp => exact hstopped (hp ▸ nofun)

/-! ### Causes and masks -/

/-- Every event keeps the causes to the event causes (R180). -/
theorem Event.causes_kept {s t : State} (h : Event s t) (p : Port) (hs : s.causes.get p &&& ~~~eventCauseBits = 0) :
    t.causes.get p &&& ~~~eventCauseBits = 0 := by
  have hsame : ∀ {t : State}, t.causes = s.causes → t.causes.get p &&& ~~~eventCauseBits = 0 := fun ht => ht ▸ hs
  cases h
  case unseen ht => exact hsame (congrArg State.causes ht :)
  case nodes same => exact hsame (by rw [← same])
  case arrives r _ => exact hsame (congrArg State.causes (arrive_besideRequests s r) :)
  case decided k b _ => exact hsame (congrArg State.causes (decided_besideRequests s k (s.stageDecision b)) :)
  case takeHead r rest _ _ => exact hsame (congrArg State.causes (takenInSettled_besideRequests { s with queue := rest } r) :)
  case trip L hL => exact hsame (congrArg State.causes (startTrip_besideRequests (s := s) hL) :)
  case halt => exact hsame (congrArg State.causes (haltedFrom_besideRequests s) :)
  case settle => cases p <;> exact raised_keeps hs (by decide)
  case causes c hc => exact hc p hs
  case logs r => exact hsame (by unfold State.storeFault; split <;> rfl)
  case adopted _ _ hc => exact hsame (congrArg State.causes hc.1 :)
  all_goals exact hs

theorem stopEverything_causes (s : State) : s.stopEverything.causes = s.causes ∧ s.stopEverything.masks = s.masks := by
  obtain ⟨b0, b1, n, h⟩ := cutStore_eq s.deenergizeAll
  unfold State.stopEverything
  rw [h]
  exact ⟨rfl, rfl⟩

theorem Act.causeLaw {s t : State} (h : Act s t) (hs : s.causeLaw) : t.causeLaw := by
  have hsame : ∀ {t : State}, t.causes = s.causes → t.masks = s.masks → t.causeLaw := fun hc hm p => by
    rw [hc, hm]; exact hs p
  cases h
  case event h =>
    have hmasks : t.masks = s.masks := congrArg (fun x => x.2.2.2.1) h.standing_eq
    exact fun p => ⟨h.causes_kept p (hs p).1, by rw [hmasks]; exact (hs p).2⟩
  case answers p r d _ =>
    have hmailbox : Cause.mailbox.isEvent := isEvent_of_bit (by decide)
    refine fun q => ⟨?_, (hs q).2⟩
    by_cases hq : q = p
    · subst hq
      have hraised : (s.replyDetail q r d).causes.get q = s.causes.get q ||| Cause.mailbox.word := PerPort.get_set_self _ _ _
      rw [hraised]
      exact raised_keeps (hs q).1 hmailbox
    · have hother : (s.replyDetail p r d).causes.get q = s.causes.get q := PerPort.get_set_of_ne _ _ hq
      rw [hother]
      exact (hs q).1
  case masked m hm => exact fun p => ⟨(hs p).1, hm p (hs p).2⟩
  case stores =>
    unfold State.storeCommand
    cases s.storeTarget <;> exact hsame rfl rfl
  case stored crcMatches j _ =>
    have hmailbox : Cause.mailbox.isEvent := isEvent_of_bit (by decide)
    unfold State.finishStore
    dsimp only
    intro q
    cases q
    · cases crcMatches <;> cases j.target <;> exact hs .host
    · cases crcMatches <;> cases j.target <;> exact ⟨raised_keeps (hs .mgmt).1 hmailbox, (hs .mgmt).2⟩
  case loads => exact fun p => by cases p <;> exact ⟨BitVec.zero_and, BitVec.zero_and⟩
  case standbyGoes vbat =>
    obtain ⟨hc, hm⟩ := stopEverything_causes s
    cases vbat <;> exact hsame hc hm
  case nrstFalls =>
    obtain ⟨hc, hm⟩ := stopEverything_causes s
    exact hsame hc hm
  case standbyArrives =>
    unfold State.standbyArrives
    dsimp only
    split <;> exact hs
  all_goals exact hs

/-- Settles O60: each law is kept by every event and every act, so by every step. -/
theorem everyStepKeepsRecordMailboxAndCauses : Obligations.EveryStepKeepsRecordMailboxAndCauses :=
  fun _ _ hretained hmailbox hcause h =>
    ⟨step_keeps (fun _ _ => Act.retainedLaw) (fun _ _ h => h) h hretained, step_keeps (fun _ _ => Act.mailboxLaw) (fun _ _ h => h) h hmailbox,
      step_keeps (fun _ _ => Act.causeLaw) (fun _ _ h => h) h hcause⟩

end Sys2Proof.Machine

/-! # The active set stays valid

Only an accepted COMMIT and the load change the active set, and only a STORE writes an image bank. -/

namespace Sys2Proof.Machine

/-! ### The active set -/

/-- The active set changes by an accepted COMMIT alone. -/
theorem Event.active_cases {s t : State} (h : Event s t) :
    t.active = s.active ∨ s.plat.phase = .settled ∧ s.staged.failure = none ∧ s.carried t := by
  cases h
  case unseen ht => exact .inl (congrArg State.active ht :)
  case nodes same => exact .inl (sameButNodes_active same)
  case arrives r _ => exact .inl (congrArg State.active (arrive_besideRequests s r) :)
  case decided k b _ => exact .inl (congrArg State.active (decided_besideRequests s k (s.stageDecision b)) :)
  case takeHead r rest _ _ => exact .inl (congrArg State.active (takenInSettled_besideRequests { s with queue := rest } r) :)
  case trip L hL => exact .inl (congrArg State.active (startTrip_besideRequests (s := s) hL) :)
  case halt => exact .inl (congrArg State.active (haltedFrom_besideRequests s) :)
  case logs r => exact .inl (by unfold State.storeFault; split <;> rfl)
  case adopted hp hf hc => exact .inr ⟨hp, hf, hc⟩
  all_goals exact .inl rfl

/-! ### The image banks -/

/-- A bank that is torn has no mark. -/
theorem tearBank_bank (s : State) (i j : BankId) : (s.tearBank i).bank j = s.bank j ∨ ((s.tearBank i).bank j).mark = false := by
  have htorn : (s.tearBank i).bank j =
      (s.setBank i { s.bank i with mark := false, generation := Config.tornGeneration s.freeCount }).bank j := by
    cases j <;> rfl
  rw [htorn, bank_setBank]
  split
  · exact .inr rfl
  · exact .inl rfl

theorem tearBank_rest (s : State) (i : BankId) : (s.tearBank i).active = s.active ∧ (s.tearBank i).storeJob = s.storeJob := by
  cases i <;> exact ⟨rfl, rfl⟩

/-- The marked images and the image of a running STORE are valid (R151). -/
def State.imagesValid (s : State) : Prop :=
  (∀ i, (s.bank i).mark = true → (s.bank i).image.valid = true) ∧ ∀ j, s.storeJob = some j → j.image.valid = true

theorem configLaw_iff (s : State) : s.configLaw ↔ s.active.valid = true ∧ s.imagesValid := by
  constructor
  · rintro ⟨hactive, h0, h1, hjob⟩
    exact ⟨hactive, fun i => by cases i; exacts [h0, h1], hjob⟩
  · rintro ⟨hactive, hbanks, hjob⟩
    exact ⟨hactive, hbanks .bank0, hbanks .bank1, hjob⟩

theorem imagesValid_of_banks {s t : State} (hs : s.imagesValid) (hbank : ∀ i, t.bank i = s.bank i ∨ (t.bank i).mark = false)
    (hjob : ∀ j, t.storeJob = some j → j.image.valid = true) : t.imagesValid := by
  refine ⟨fun i hm => ?_, hjob⟩
  rcases hbank i with h | h
  · rw [h] at hm ⊢
    exact hs.1 i hm
  · rw [h] at hm
    cases hm

theorem cutStore_banks (s : State) : s.cutStore.active = s.active ∧ s.cutStore.storeJob = none ∧
    ∀ i, s.cutStore.bank i = s.bank i ∨ (s.cutStore.bank i).mark = false := by
  unfold State.cutStore
  split
  · next h => exact ⟨rfl, h, fun _ => .inl rfl⟩
  · next j _ => exact ⟨(tearBank_rest s j.target).1, rfl, tearBank_bank s j.target⟩

theorem stopEverything_banks (s : State) : s.stopEverything.active = s.active ∧ s.stopEverything.storeJob = none ∧
    ∀ i, s.stopEverything.bank i = s.bank i ∨ (s.stopEverything.bank i).mark = false := by
  obtain ⟨hactive, hjob, hbank⟩ := cutStore_banks s.deenergizeAll
  exact ⟨hactive, hjob, fun i => by cases i; exacts [hbank .bank0, hbank .bank1]⟩

theorem finishStore_bank (s : State) (crcMatches : Bool) (j : StoreJob) (i : BankId) :
    (s.finishStore crcMatches j).bank i = s.bank i ∨ ((s.finishStore crcMatches j).bank i).mark = false ∨
      ((s.finishStore crcMatches j).bank i).image = j.image := by
  cases crcMatches
  · have htorn := tearBank_bank { s with storeJob := none } j.target i
    cases i <;> exact htorn.imp id .inl
  · have hbank := bank_setBank { s with storeJob := none } j.target i ⟨true, j.generation, j.image, imageCrc j.generation j.image⟩
    have hfinish : (s.finishStore true j).bank i = (State.setBank { s with storeJob := none } j.target
        ⟨true, j.generation, j.image, imageCrc j.generation j.image⟩).bank i := by cases i <;> rfl
    rw [hfinish, hbank]
    split
    · exact .inr (.inr rfl)
    · cases i <;> exact .inl rfl

theorem finishStore_rest (s : State) (crcMatches : Bool) (j : StoreJob) :
    (s.finishStore crcMatches j).active = s.active ∧ (s.finishStore crcMatches j).storeJob = none := by
  unfold State.finishStore
  cases crcMatches <;> cases j.target <;> exact ⟨rfl, rfl⟩

theorem newestValid_mark {s : State} {i : BankId} (h : s.newestValid = some i) : (s.bank i).mark = true := by
  have hvalid : Bank.valid (s.bank i) = true := by
    unfold State.newestValid at h
    cases h0 : Bank.valid s.bank0 <;> cases h1 : Bank.valid s.bank1 <;> simp only [h0, h1] at h
    · cases h
    · cases h; exact h1
    · cases h; exact h0
    · split at h <;> cases h
      exacts [h1, h0]
  exact (Bool.and_eq_true_iff.1 hvalid).1

/-- The empty set satisfies every validation rule. -/
theorem empty_valid : ConfigSet.empty.valid = true := by decide

theorem loadImage_valid {s : State} (hs : s.imagesValid) : s.loadImage.active.valid = true := by
  unfold State.loadImage
  dsimp only
  split
  · next i hi => exact hs.1 i (newestValid_mark hi)
  · exact empty_valid

/-! ### The law -/

theorem Act.configLaw {s t : State} (h : Act s t) (hs : s.configLaw) : t.configLaw := by
  obtain ⟨hactive, himages⟩ := (configLaw_iff s).1 hs
  have hstopped : ∀ {t : State}, t.active = s.stopEverything.active → t.storeJob = s.stopEverything.storeJob →
      (∀ i, t.bank i = s.stopEverything.bank i) → t.configLaw := fun ha hj hb => by
    obtain ⟨hactive', hjob', hbank'⟩ := stopEverything_banks s
    refine (configLaw_iff _).2 ⟨by rw [ha, hactive']; exact hactive, imagesValid_of_banks himages ?_ ?_⟩
    · intro i; rw [hb]; exact hbank' i
    · intro j e; rw [hj, hjob'] at e; cases e
  cases h
  case event h =>
    have heq := h.standing_eq
    have hb0 : t.bank0 = s.bank0 := congrArg (fun x => x.2.2.2.2.1) heq
    have hb1 : t.bank1 = s.bank1 := congrArg (fun x => x.2.2.2.2.2.1) heq
    have hjob : t.storeJob = s.storeJob := congrArg (fun x => x.2.2.2.2.2.2.1) heq
    refine (configLaw_iff t).2 ⟨?_, imagesValid_of_banks himages (fun i => .inl ?_) fun j e => himages.2 j (hjob ▸ e)⟩
    · rcases h.active_cases with he | ⟨-, hf, hc⟩
      · rwa [he]
      · rw [hc.2.1]
        exact Option.isNone_iff_eq_none.2 hf
    · cases i
      exacts [hb0, hb1]
  case loads =>
    refine (configLaw_iff _).2 ⟨loadImage_valid himages, imagesValid_of_banks himages (fun i => .inl ?_) nofun⟩
    cases i <;> rfl
  case stores =>
    obtain ⟨ha, -⟩ := tearBank_rest s s.storeTarget
    have hbank := tearBank_bank s s.storeTarget
    refine (configLaw_iff _).2 ⟨?_, imagesValid_of_banks himages (fun i => ?_) fun j e => ?_⟩
    · exact (congrArg ConfigSet.valid ha).trans hactive
    · cases i
      exacts [hbank .bank0, hbank .bank1]
    · cases e
      exact hactive
  case stored crcMatches j hj =>
    obtain ⟨ha, hjob⟩ := finishStore_rest s crcMatches j
    refine (configLaw_iff _).2 ⟨by rw [ha]; exact hactive, fun i hm => ?_, fun k e => ?_⟩
    · rcases finishStore_bank s crcMatches j i with h | h | h
      · rw [h] at hm ⊢
        exact himages.1 i hm
      · rw [h] at hm
        cases hm
      · rw [h]
        exact himages.2 j hj
    · rw [hjob] at e
      cases e
  case standbyGoes vbat =>
    cases vbat <;> exact hstopped rfl rfl fun i => by cases i <;> rfl
  case nrstFalls => exact hstopped rfl rfl fun i => by cases i <;> rfl
  case standbyArrives =>
    unfold State.standbyArrives
    dsimp only
    split <;> exact hs
  all_goals exact hs

/-! ### Which failure is reported -/

theorem failure_eq_none_iff (c : ConfigSet) : c.failure = none ↔ ∀ f, ¬c.fails f := by
  obtain ⟨hsome, hnone⟩ := firstOf_failure c
  refine ⟨hnone, fun h => ?_⟩
  cases hf : c.failure with
  | none => rfl
  | some f => exact absurd (hsome f hf).1 (h f)

theorem failure_eq_some_iff (c : ConfigSet) (f : Failure) :
    c.failure = some f ↔ c.fails f ∧ ∀ g, c.fails g → f.turn ≤ g.turn := by
  refine ⟨(firstOf_failure c).1 f, fun ⟨hf, hfirst⟩ => ?_⟩
  cases hg : c.failure with
  | none => exact absurd hf ((failure_eq_none_iff c).1 hg f)
  | some g =>
    obtain ⟨hgf, hgfirst⟩ := (firstOf_failure c).1 g hg
    rw [turn_injective c g f hgf hf (Nat.le_antisymm (hgfirst f hf) (hfirst g hgf))]

/-- Settles O59: by the events and acts, and by the first failing check. -/
theorem everyStepKeepsTheActiveSetValid : Obligations.EveryStepKeepsTheActiveSetValid :=
  ⟨fun _ _ hs h => step_keeps (fun _ _ => Act.configLaw) (fun _ _ h => h) h hs, fun c =>
    ⟨Option.isNone_iff_eq_none.trans (failure_eq_none_iff c), failure_eq_none_iff c, failure_eq_some_iff c⟩⟩

end Sys2Proof.Machine

/-! # The request queue and the quota

No event adds to a port's completions, queued requests and request in flight together, but an arrival from that port; and the queue keeps one request of each source. -/

namespace Sys2Proof.Machine

/-! ### Counting a port's requests -/

/-- How many of these requests are the port's. -/
def countOf (p : Port) (rs : List Request) : Nat := (rs.filter fun r => r.source == Port.source p).length

theorem quota_eq (s : State) (p : Port) :
    s.quota p = (s.completions.get p).length + countOf p s.queue + countOf p s.plat.inFlight.toList := by
  have hflight : s.inFlightOf p = countOf p s.plat.inFlight.toList := by
    unfold State.inFlightOf countOf
    cases s.plat.inFlight with
    | none => rfl
    | some r => by_cases h : r.source = Port.source p <;> simp [h]
  rw [← hflight]
  rfl

theorem countOf_append (p : Port) (a b : List Request) : countOf p (a ++ b) = countOf p a + countOf p b := by
  simp [countOf]

@[simp] theorem countOf_nil (p : Port) : countOf p [] = 0 := rfl

theorem countOf_cons (p : Port) (r : Request) (rs : List Request) :
    countOf p (r :: rs) = countOf p [r] + countOf p rs :=
  countOf_append p [r] rs

theorem countOf_singleton (p : Port) (r : Request) : countOf p [r] = if r.source = Port.source p then 1 else 0 := by
  by_cases h : r.source = Port.source p <;> simp [countOf, h]

theorem countOf_filter_le (p : Port) (keep : Request → Bool) (rs : List Request) :
    countOf p (rs.filter keep) ≤ countOf p rs :=
  (List.filter_sublist.filter _).length_le

/-- Dropping a source's requests drops the port's exactly where the source is the port. -/
theorem countOf_withoutSource (p : Port) (src : Source) (rs : List Request) :
    countOf p (rs.filter fun q => q.source != src) = if src = Port.source p then 0 else countOf p rs := by
  unfold countOf
  rw [List.filter_filter]
  split
  · next h => simp [h]
  · next h =>
    congr 2
    funext r
    by_cases hr : r.source = Port.source p
    · have hne : r.source ≠ src := fun e => h (e.symm.trans hr)
      simp [hr, show Port.source p ≠ src from fun e => h e.symm]
    · simp [hr]

theorem endedAt_length (s : State) (L : Level) (b : Bool) (rs : List Request) (e : Ending) (p : Port) :
    ((s.endedAt L b rs e).get p).length = (s.completions.get p).length + countOf p rs := by
  cases p <;> simp [State.endedAt, recordsAt, countOf, PerPort.get]

theorem ended_length (s : State) (rs : List Request) (e : Ending) (p : Port) :
    ((s.ended rs e).get p).length = (s.completions.get p).length + countOf p rs :=
  endedAt_length s _ _ rs e p

theorem source_of_olderThan {s : State} {r q : Request} (h : s.olderThan r = some q) : q.source = r.source :=
  beq_iff_eq.1 (List.find?_some h :)

/-- A source's older entry counts where the port is that source, and the queue holds it. -/
theorem countOf_olderThan (s : State) (r : Request) (p : Port) :
    countOf p (s.olderThan r).toList ≤ if r.source = Port.source p then countOf p s.queue else 0 := by
  cases hold : s.olderThan r with
  | none => exact Nat.zero_le _
  | some q =>
    rw [Option.toList_some, countOf_singleton, source_of_olderThan hold]
    split
    · next h =>
      have hmem : q ∈ s.queue.filter fun r => r.source == Port.source p :=
        List.mem_filter.2 ⟨List.mem_of_find?_eq_some hold, beq_iff_eq.2 ((source_of_olderThan hold).trans h)⟩
      exact List.length_pos_of_mem hmem
    · exact Nat.le_refl 0

/-! ### The quota of each event -/

theorem startedFor_quota (s : State) (r : Request) (p : Port) :
    (s.startedFor r).quota p = (s.completions.get p).length + countOf p s.queue + countOf p [r] :=
  quota_eq _ p

theorem overtakenBy_quota (s : State) (r : Request) (p : Port) :
    (s.overtakenBy r).quota p ≤ s.quota p + countOf p [r] := by
  have holder := countOf_olderThan s r p
  unfold State.overtakenBy
  rw [startedFor_quota, quota_eq]
  dsimp only
  rw [ended_length, countOf_append, countOf_withoutSource]
  change countOf p (s.queue.find? fun q => q.source == r.source).toList ≤ _ at holder
  generalize s.queue.find? (fun q => q.source == r.source) = older at holder ⊢
  split at holder <;> simp only [*, if_true, if_false] <;> omega

theorem takenInSettled_quota (s : State) (r : Request) (p : Port) :
    (s.takenInSettled r).quota p ≤ s.quota p + countOf p [r] := by
  have hquota := quota_eq s p
  unfold State.takenInSettled
  split
  · rw [quota_eq, ended_length]
    change (s.completions.get p).length + _ + countOf p s.queue + countOf p s.plat.inFlight.toList ≤ _
    omega
  · rw [startedFor_quota]
    omega

theorem countOf_map_replaced (p : Port) (r : Request) (rs : List Request) :
    countOf p (rs.map fun q => if q.source = r.source then r else q) = countOf p rs := by
  unfold countOf
  rw [List.filter_map, List.length_map]
  congr 2
  funext q
  by_cases h : q.source = r.source <;> simp [h]

/-- An arrival adds one to the quota of its own port, and nothing to the other's. -/
theorem arrive_quota (s : State) (r : Request) (p : Port) : (s.arrive r).quota p ≤ s.quota p + countOf p [r] := by
  have hquota := quota_eq s p
  have harr := arrived s r
  generalize s.arrive r = t at harr ⊢
  cases harr
  case discarded => exact Nat.le_add_right _ _
  case joins =>
    rw [quota_eq]
    dsimp only
    rw [countOf_append]
    omega
  case merges => exact Nat.le_add_right _ _
  case replaces q hold =>
    rw [quota_eq]
    dsimp only
    rw [countOf_map_replaced, ended_length, countOf_singleton p q, source_of_olderThan hold, ← countOf_singleton]
    omega
  case waits =>
    have holder := countOf_olderThan s r p
    rw [quota_eq]
    dsimp only
    rw [ended_length, countOf_append, countOf_withoutSource]
    split at holder <;> simp only [*, if_true, if_false] <;> omega
  case overtakes => exact overtakenBy_quota s r p

theorem countOf_watch (p : Port) {r : Request} (h : r.source = .watch) : countOf p [r] = 0 := by
  rw [countOf_singleton, h]
  cases p <;> rfl

theorem recoveryRequest_source {a : FaultAction} {r : Request} (h : recoveryRequest a = some r) : r.source = .watch := by
  cases a <;> cases h <;> rfl

theorem decided_quota (s : State) (k : Nat) (a : FaultAction) (p : Port) : (s.decided k a).quota p ≤ s.quota p := by
  unfold State.decided
  dsimp only
  split
  · next r hr =>
    refine (arrive_quota _ r p).trans ?_
    rw [countOf_watch p (recoveryRequest_source hr)]
    exact Nat.le_refl _
  · exact Nat.le_refl _

theorem startTrip_quota {s : State} {L : Level} (h : L ≠ .run) (p : Port) : (s.startTrip L).quota p ≤ s.quota p := by
  rw [startTrip_eq h, quota_eq, quota_eq]
  dsimp only
  rw [ended_length, State.pendingRequests, countOf_append]
  simp only [Option.toList_none, countOf_nil]
  omega

theorem haltedFrom_quota (s : State) (p : Port) : s.haltedFrom.quota p ≤ s.quota p := by
  unfold State.haltedFrom
  rw [flushQueue_eq, quota_eq, quota_eq]
  unfold State.losing
  dsimp only
  rw [ended_length]
  simp only [Option.toList_none, countOf_nil]
  omega

theorem settledAt_quota (s : State) (L : Level) (p : Port) : (s.settledAt L).quota p ≤ s.quota p := by
  rw [quota_eq, quota_eq]
  unfold State.settledAt
  dsimp only
  rw [endedAt_length]
  simp only [Option.toList_none, countOf_nil]
  omega

theorem handForced_quota {s : State} {r : Request} (h : s.queue.find? (fun q => q.kind == .forced) = some r) (p : Port) :
    (State.overtakenBy { s with queue := s.queue.filter fun q => q.source != r.source } r).quota p ≤ s.quota p := by
  refine (overtakenBy_quota _ r p).trans ?_
  rw [quota_eq, quota_eq]
  dsimp only
  rw [countOf_withoutSource, countOf_singleton]
  split
  · next hsource =>
    have hmem : r ∈ s.queue.filter fun r => r.source == Port.source p :=
      List.mem_filter.2 ⟨List.mem_of_find?_eq_some h, beq_iff_eq.2 hsource⟩
    have hpos : 0 < countOf p s.queue := List.length_pos_of_mem hmem
    omega
  · exact Nat.le_refl _

theorem cancelled_quota {s : State} {p : Port} {tag : Byte} (h : ∃ r ∈ s.queue, Request.isOf r p tag = true)
    (c : Completion) (q : Port) : State.quota { s with
      queue := s.queue.filter fun r => !Request.isOf r p tag
      completions := s.completions.set p (s.completions.get p ++ [c]) } q ≤ s.quota q := by
  rw [quota_eq, quota_eq]
  dsimp only
  by_cases hq : q = p
  · subst hq
    rw [PerPort.get_set_self]
    have hfewer : countOf q (s.queue.filter fun r => !Request.isOf r q tag) < countOf q s.queue := by
      unfold countOf
      rw [List.filter_comm]
      refine List.length_filter_lt_length_iff_exists.2 ?_
      obtain ⟨r, hr, hof⟩ := h
      exact ⟨r, List.mem_filter.2 ⟨hr, (Bool.and_eq_true_iff.1 hof).1⟩, by simp [hof]⟩
    simp only [List.length_append, List.length_singleton]
    omega
  · rw [PerPort.get_set_of_ne _ _ hq]
    have hle := countOf_filter_le q (fun r => !Request.isOf r p tag) s.queue
    omega

theorem storeFault_frame (s : State) (r : FaultRecord) :
    { s.storeFault r with faults := s.faults, retained := s.retained } = s := by
  unfold State.storeFault
  split <;> rfl

theorem Event.quotaLaw {s t : State} (h : Event s t) (hs : s.quotaLaw) : t.quotaLaw := by
  have hle : ∀ {t : State}, (∀ p, t.quota p ≤ s.quota p) → t.quotaLaw := fun hq p => (hq p).trans (hs p)
  have hsame : ∀ {t : State}, t.queue = s.queue → t.completions = s.completions → t.plat.inFlight = s.plat.inFlight →
      t.quotaLaw := fun hq hc hf => hle fun p => by rw [quota_eq, quota_eq, hq, hc, hf]
  cases h
  case unseen ht =>
    exact hsame (congrArg State.queue ht :) (congrArg State.completions ht :) (congrArg (fun u => u.plat.inFlight) ht :)
  case nodes same =>
    exact hsame (by rw [← same]) (by rw [← same]) (by rw [sameButNodes_plat same])
  case arrives r hr =>
    intro p
    have hquota := arrive_quota s r p
    rw [countOf_singleton] at hquota
    split at hquota
    · next hp =>
      have := hr.2 p hp
      omega
    · exact hquota.trans (hs p)
  case decided k b _ => exact hle (decided_quota s k _)
  case settle L _ _ _ => exact hle (settledAt_quota s L)
  case handForced r hr _ _ => exact hle (handForced_quota hr)
  case repair => exact hle fun p => by rw [quota_eq, quota_eq]; exact Nat.le_add_right _ _
  case takeHead r rest _ hq =>
    refine hle fun p => (takenInSettled_quota _ r p).trans ?_
    rw [quota_eq, quota_eq, hq, countOf_cons p r rest]
    dsimp only
    omega
  case trip L hL => exact hle (startTrip_quota hL)
  case halt => exact hle (haltedFrom_quota s)
  case completionAcked p c rest hc =>
    refine hle fun q => ?_
    rw [quota_eq, quota_eq]
    dsimp only
    by_cases hq : q = p
    · subst hq
      rw [PerPort.get_set_self, hc, List.length_cons]
      omega
    · rw [PerPort.get_set_of_ne _ _ hq]
  case cancelled p tag h => exact hle (cancelled_quota h _)
  case logs r =>
    have hframe := storeFault_frame s r
    exact hsame (congrArg State.queue hframe :) (congrArg State.completions hframe :)
      (congrArg (fun u => u.plat.inFlight) hframe :)
  case adopted _ _ hc =>
    exact hsame (congrArg State.queue hc.1 :) (congrArg State.completions hc.1 :)
      (congrArg (fun u => u.plat.inFlight) hc.1 :)
  all_goals exact hs

/-! ### One request of each source -/

theorem nodup_of_sublist {a b : List Request} (h : a.Sublist b) (hb : (b.map Request.source).Nodup) :
    (a.map Request.source).Nodup :=
  hb.sublist (h.map _)

theorem nodup_withoutSource_append {q : List Request} (hq : (q.map Request.source).Nodup) (r : Request) :
    (((q.filter fun e => e.source != r.source) ++ [r]).map Request.source).Nodup := by
  rw [List.map_append, List.map_singleton, List.nodup_append]
  refine ⟨nodup_of_sublist List.filter_sublist hq, List.nodup_singleton _, fun a ha b hb => ?_⟩
  rw [List.mem_singleton.1 hb]
  obtain ⟨e, he, rfl⟩ := List.mem_map.1 ha
  simpa using (List.mem_filter.1 he).2

theorem overtakenBy_queueLaw {s : State} (hs : s.queueLaw) (r : Request) : (s.overtakenBy r).queueLaw :=
  nodup_of_sublist List.filter_sublist hs

theorem filter_eq_of_olderThan_none {s : State} {r : Request} (h : s.olderThan r = none) :
    s.queue.filter (fun q => q.source != r.source) = s.queue := by
  refine List.filter_eq_self.2 fun q hq => ?_
  simpa [bne] using List.find?_eq_none.1 h q hq

theorem arrive_queueLaw {s : State} (hs : s.queueLaw) (r : Request) : (s.arrive r).queueLaw := by
  have harr := arrived s r
  generalize s.arrive r = t at harr ⊢
  cases harr
  case joins hold =>
    have hjoined := nodup_withoutSource_append hs r
    rw [filter_eq_of_olderThan_none hold] at hjoined
    exact hjoined
  case replaces q hold =>
    have hsources : (s.queue.map fun q => if q.source = r.source then r else q).map Request.source =
        s.queue.map Request.source := by
      rw [List.map_map]
      refine List.map_congr_left fun e _ => ?_
      by_cases h : e.source = r.source <;> simp [h]
    exact (congrArg List.Nodup hsources).mpr hs
  case waits => exact nodup_withoutSource_append hs r
  case overtakes => exact overtakenBy_queueLaw hs r
  all_goals exact hs

theorem Event.queueLaw {s t : State} (h : Event s t) (hs : s.queueLaw) : t.queueLaw := by
  have hsame : ∀ {t : State}, t.queue = s.queue → t.queueLaw := fun hq => by
    unfold State.queueLaw
    rw [hq]
    exact hs
  cases h
  case unseen ht => exact hsame (congrArg State.queue ht :)
  case nodes same => exact hsame (by rw [← same])
  case arrives r _ => exact arrive_queueLaw hs r
  case decided k b _ =>
    unfold State.decided
    dsimp only
    split
    · exact arrive_queueLaw (s := { s with monitor := s.monitor.afterDecision k _ }) hs _
    · exact hs
  case handForced r _ _ _ =>
    exact overtakenBy_queueLaw (s := { s with queue := _ }) (nodup_of_sublist List.filter_sublist hs) r
  case takeHead r rest _ hq =>
    have hrest : (rest.map Request.source).Nodup := nodup_of_sublist (List.sublist_cons_self r rest) (hq ▸ hs)
    unfold State.takenInSettled
    split <;> exact hrest
  case trip L hL => rw [startTrip_eq hL]; exact List.nodup_nil
  case halt => exact List.nodup_nil
  case cancelled => exact nodup_of_sublist List.filter_sublist hs
  case logs r => exact hsame (congrArg State.queue (storeFault_frame s r) :)
  case adopted _ _ hc => exact hsame (congrArg State.queue hc.1 :)
  all_goals exact hs

/-! ### The acts -/

/-- The nodes, the budget, the active set, the platform record and the requests, the logs and the monitor, and nothing else. -/
def State.sequencing (s : State) : State :=
  { State.reset with
    nodes := s.nodes, budgetInUse := s.budgetInUse, ready := s.ready, active := s.active, plat := s.plat, idle := s.idle
    queue := s.queue, completions := s.completions, faults := s.faults, monitor := s.monitor }

theorem stopEverything_sequencing (s : State) : s.stopEverything.sequencing =
    ({ s.deenergizeAll with
      plat := { s.plat with holdTimer := none }, idle := none
      monitor := { s.monitor with deadline := none } } : State).sequencing := by
  obtain ⟨b0, b1, n, h⟩ := cutStore_eq s.deenergizeAll
  unfold State.stopEverything
  rw [h]
  rfl

/-- An act is an event, the load, which starts the sequencing again, a stop, or does not touch the sequencing. -/
theorem Act.cases_sequencing {s t : State} (h : Act s t) : Event s t ∨ t = s.loadImage.checkRetained.startBlocks ∨
    (t.power ≠ .running ∧ t.sequencing = s.stopEverything.sequencing) ∨
    ((t.power = s.power ∨ t.power ≠ .running) ∧ t.sequencing = s.sequencing) := by
  cases h
  case event h => exact .inl h
  case loads => exact .inr (.inl rfl)
  case stores =>
    unfold State.storeCommand
    cases s.storeTarget <;> exact .inr (.inr (.inr ⟨.inl rfl, rfl⟩))
  case stored crcMatches j _ =>
    unfold State.finishStore
    cases crcMatches <;> cases j.target <;> exact .inr (.inr (.inr ⟨.inl rfl, rfl⟩))
  case standbyGoes vbat => cases vbat <;> exact .inr (.inr (.inl ⟨nofun, rfl⟩))
  case nrstFalls => exact .inr (.inr (.inl ⟨nofun, rfl⟩))
  case standbyArrives =>
    unfold State.standbyArrives
    dsimp only
    split <;> exact .inr (.inr (.inr ⟨.inr nofun, rfl⟩))
  case starts => exact .inr (.inr (.inr ⟨.inr nofun, rfl⟩))
  all_goals exact .inr (.inr (.inr ⟨.inl rfl, rfl⟩))

/-- What the sequencing keeps through each act and each event, if the load begins with it, every step keeps. -/
theorem Act.keeps_sequencing {P : State → Prop} (hevent : ∀ s t, Event s t → P s → P t)
    (hload : ∀ s : State, P s.loadImage.checkRetained.startBlocks)
    (hstop : ∀ s t : State, t.power ≠ .running → t.sequencing = s.stopEverything.sequencing → P s → P t)
    (hsame : ∀ s t : State, (t.power = s.power ∨ t.power ≠ .running) → t.sequencing = s.sequencing → P s → P t)
    {s t : State} (h : Act s t) (hs : P s) : P t := by
  rcases h.cases_sequencing with he | rfl | ⟨hp, heq⟩ | ⟨hp, heq⟩
  · exact hevent s t he hs
  · exact hload s
  · exact hstop s t hp heq hs
  · exact hsame s t hp heq hs

theorem queueLaw_of_sequencing {s t : State} (h : t.sequencing = s.sequencing) (hs : s.queueLaw) : t.queueLaw := by
  have hqueue : t.queue = s.queue := (congrArg State.queue h :)
  unfold State.queueLaw
  rw [hqueue]
  exact hs

theorem quotaLaw_of_sequencing {s t : State} (h : t.sequencing = s.sequencing) (hs : s.quotaLaw) : t.quotaLaw := fun p => by
  have hquota : t.quota p = s.quota p := (congrArg (fun u => State.quota u p) h :)
  rw [hquota]
  exact hs p

theorem startBlocks_quotaLaw (s : State) : s.startBlocks.quotaLaw := fun p => by
  rw [quota_eq]
  cases p <;> exact Nat.zero_le 4

theorem Act.queueLaw {s t : State} (h : Act s t) (hs : s.queueLaw) : t.queueLaw := by
  refine h.keeps_sequencing (fun _ _ => Event.queueLaw) (fun _ => List.nodup_nil) (fun s t _ heq hs => ?_) (fun s t _ heq hs => ?_) hs
  · exact queueLaw_of_sequencing (heq.trans (stopEverything_sequencing s)) hs
  · exact queueLaw_of_sequencing heq hs

theorem Act.quotaLaw {s t : State} (h : Act s t) (hs : s.quotaLaw) : t.quotaLaw := by
  refine h.keeps_sequencing (fun _ _ => Event.quotaLaw) (fun _ => startBlocks_quotaLaw _) (fun s t _ heq hs => ?_)
    (fun s t _ heq hs => ?_) hs
  · exact quotaLaw_of_sequencing (heq.trans (stopEverything_sequencing s)) hs
  · exact quotaLaw_of_sequencing heq hs

/-- Settles O57: by the events and acts; a stop leaves the requests as they are. -/
theorem everyStepKeepsQueueAndQuota : Obligations.EveryStepKeepsQueueAndQuota := fun _ _ hqueue hquota h =>
  ⟨step_keeps (fun _ _ => Act.queueLaw) (fun _ _ h => h) h hqueue, step_keeps (fun _ _ => Act.quotaLaw) (fun _ _ h => h) h hquota⟩

end Sys2Proof.Machine

/-! # The platform record, HALTED and the idle timer

Every event and every act keeps the platform record coherent, HALTED at a standstill and the idle timer to SETTLED at STANDBY. -/

namespace Sys2Proof.Machine

/-! ### The platform record -/

/-- The platform record of a transition that starts is coherent (R52, R55). -/
theorem startedFor_platLaw (s : State) (r : Request) : (s.startedFor r).plat.law := by
  unfold State.startedFor Platform.law
  cases hrec : r.recycleTaken s.plat
  · simp only [Bool.false_eq_true, if_false]
    refine ⟨?_, ?_, ?_, ?_, nofun, nofun⟩ <;> split <;> simp [Phase.inFlight]
  · have hvia : r.viaTaken s.plat = none := by
      simp only [Request.recycleTaken, Bool.and_eq_true, Option.isNone_iff_eq_none] at hrec
      exact hrec.1.2
    simp [Phase.inFlight, hvia]

theorem startTrip_platLaw {s : State} {L : Level} (h : L ≠ .run) : (s.startTrip L).plat.law := by
  rw [startTrip_eq h]
  unfold Platform.law
  dsimp only
  split <;> simp [Phase.inFlight]

theorem arrive_platLaw {s : State} (hs : s.plat.law) (r : Request) : (s.arrive r).plat.law := by
  have harr := arrived s r
  generalize s.arrive r = t at harr ⊢
  cases harr
  case overtakes => exact startedFor_platLaw _ r
  all_goals exact hs

theorem phase_of_recycle {p : Platform} (h : p.law) {l : Leg} (hl : p.recycle = some l) : p.phase = .recycling := by
  have := h.2.1
  rw [hl] at this
  simpa using this

/-- On the way to a via no leg runs, and it is no trip (R52, R61, R69). -/
theorem noLeg_of_via {p : Platform} (h : p.law) {v : Level} (hv : p.via = some v) :
    p.recycle = none ∧ p.trip = false ∧ p.holdTimer = none := by
  obtain ⟨-, hrecycle, hvia, -, htrip, hhold⟩ := h
  have hleg : p.recycle = none := by
    have hphase : (p.phase == Phase.recycling) = false := by
      rcases hvia (by rw [hv]; rfl) with h | h <;> rw [h] <;> rfl
    simpa [hphase] using hrecycle
  refine ⟨hleg, Bool.eq_false_iff.2 fun ht => ?_, ?_⟩
  · simpa [hv] using (htrip ht).2.1
  · by_contra ht
    simpa [hleg] using hhold (Option.isSome_iff_ne_none.2 ht)

theorem Event.platLaw {s t : State} (h : Event s t) (hs : s.plat.law) : t.plat.law := by
  obtain ⟨htarget, hrecycle, hvia, hflight, htrip, hhold⟩ := hs
  have hs : s.plat.law := ⟨htarget, hrecycle, hvia, hflight, htrip, hhold⟩
  have hsame : ∀ {t : State}, t.plat = s.plat → t.plat.law := fun h => h ▸ hs
  cases h
  case unseen ht => exact hsame (congrArg State.plat ht :)
  case nodes same => exact hsame (sameButNodes_plat same)
  case arrives r _ => exact arrive_platLaw hs r
  case decided k b _ =>
    unfold State.decided
    dsimp only
    split
    · exact arrive_platLaw (s := { s with monitor := s.monitor.afterDecision k _ }) hs _
    · exact hs
  case startHold hd =>
    have hphase := phase_of_recycle hs hd.1
    refine ⟨htarget, by rw [hd.1] at hrecycle; exact hrecycle, hvia, hflight, fun ht => ?_, fun _ => rfl⟩
    rw [hd.1] at htrip
    exact absurd (htrip ht).2.2.1 nofun
  case viaSettle v hdue hv =>
    obtain ⟨hleg, hnotrip, htimer⟩ := noLeg_of_via hs hv
    have hin : s.plat.target.isSome = true := htarget.trans hdue.1
    unfold State.viaSettledAt Platform.law
    simp only [hleg, hnotrip, htimer, hin]
    refine ⟨?_, ?_, nofun, ?_, nofun, nofun⟩ <;> simp <;> split <;> simp [Phase.inFlight]
  case settle => exact ⟨rfl, rfl, nofun, nofun, nofun, nofun⟩
  case handForced r _ _ _ => exact startedFor_platLaw _ r
  case repair => exact ⟨rfl, rfl, nofun, nofun, nofun, nofun⟩
  case takeHead r rest _ _ =>
    unfold State.takenInSettled
    split
    · exact hs
    · exact startedFor_platLaw _ r
  case trip L hL => exact startTrip_platLaw hL
  case halt => exact ⟨rfl, rfl, nofun, nofun, nofun, nofun⟩
  case holdOver hr =>
    have hphase := phase_of_recycle hs hr
    refine ⟨htarget, by rw [hr] at hrecycle; exact hrecycle, hvia, hflight, fun ht => ?_, nofun⟩
    rw [hr] at htrip
    exact absurd (htrip ht).2.2.1 nofun
  case unhalt hp =>
    rw [hp] at htarget hrecycle hvia hflight htrip
    exact ⟨htarget, hrecycle, fun h => absurd (hvia h) (by simp), hflight, fun h => absurd (htrip h).1 nofun, hhold⟩
  case logs r => exact hsame (congrArg State.plat (storeFault_frame s r) :)
  case ticked =>
    refine ⟨htarget, hrecycle, hvia, hflight, htrip, fun ht => hhold ?_⟩
    have hmap : (tickTimer s.plat.holdTimer).isSome = true := ht
    rwa [tickTimer, Option.isSome_map] at hmap
  case adopted _ _ hc => exact hsame (congrArg State.plat hc.1 :)
  all_goals exact hs

/-! ### HALTED -/

/-- With no node energized, SHED takes nothing down. -/
theorem shedTakes_eq_false {s : State} {m : NodeId} (h : (s.nodeState m).energized = false) (n : NodeId) :
    s.shedTakes n m = false := by
  unfold State.shedTakes
  rw [h, Bool.and_false]

/-- Every node is OFF or FAILED, and none is queued. -/
def State.allDown (s : State) : Prop := (∀ n, s.nodeState n = .off ∨ s.nodeState n = .failed) ∧ s.ready = []

theorem energized_of_down {st : NodeState} (h : st = .off ∨ st = .failed) : st.energized = false := by
  rcases h with h | h <;> rw [h] <;> rfl

/-- In HALTED the nodes stay down. -/
theorem NodesStep.allDown {s t : State} (h : NodesStep s t) (hp : s.plat.phase = .halted) (hs : s.allDown) : t.allDown := by
  obtain ⟨hdown, hready⟩ := hs
  cases h
  case look hk =>
    refine ⟨fun n => ?_, hk.ready.trans hready⟩
    rcases hk.state n with h | ⟨-, h⟩
    · rw [h]; exact hdown n
    · exact .inl h
  case place hh => exact absurd hp hh
  case off n hfrom => rcases hdown n with h | h <;> simp [h] at hfrom
  case drop n hfrom _ => rw [energized_of_down (hdown n)] at hfrom; cases hfrom
  case grant hh _ => exact absurd hp hh
  case settling n hfrom => rcases hdown n with h | h <;> rw [h] at hfrom <;> cases hfrom
  case turnOn n hfrom => rcases hdown n with h | h <;> rw [h] at hfrom <;> cases hfrom
  case shed n hfrom =>
    obtain ⟨hfailed, hrest, -, hr⟩ := shed_shedNodes hfrom
    refine ⟨fun m => ?_, by rw [hr, hready]; rfl⟩
    by_cases hm : m = n
    · subst hm
      exact .inr (congrArg NodeLive.state hfailed)
    · have hkept := hrest m hm
      rw [shedTakes_eq_false (energized_of_down (hdown m)) n] at hkept
      rw [nodeState_eq, hkept]
      exact hdown m
  case allOff hnode _ hr => exact ⟨fun n => (hnode n).1, hr⟩

theorem Event.haltedLaw {s t : State} (h : Event s t) (hs : s.haltedLaw) : t.haltedLaw := by
  have hkeep : ∀ {t : State}, t.plat.phase = s.plat.phase → (∀ n, t.nodeState n = s.nodeState n) → t.ready = s.ready →
      (s.queue = [] → t.queue = []) → (s.idle = none → t.idle = none) → t.haltedLaw := fun hp hn hr hq hi ht => by
    obtain ⟨hdown, hready, hqueue, hidle⟩ := hs (hp ▸ ht)
    exact ⟨fun n => by rw [hn]; exact hdown n, hr.trans hready, hq hqueue, hi hidle⟩
  have hmoving : ∀ {t : State}, t.plat.phase ≠ .halted → t.haltedLaw := fun hp ht => absurd ht hp
  have hstarted : ∀ (u : State) (r : Request), (u.startedFor r).haltedLaw := fun u r => hmoving (by
    unfold State.startedFor
    dsimp only
    split
    · nofun
    · split <;> nofun)
  have harrive : ∀ {u : State} (r : Request), u.haltedLaw → (u.arrive r).haltedLaw := fun {u} r hu => by
    have harr := arrived u r
    generalize u.arrive r = t at harr ⊢
    cases harr
    case discarded => exact hu
    case overtakes => exact hstarted _ r
    all_goals exact fun ht => absurd ht (by assumption)
  cases h
  case unseen ht =>
    have hnodes : t.nodes = s.nodes := (congrArg State.nodes ht :)
    exact hkeep (congrArg (fun u => u.plat.phase) ht :) (fun n => by simp only [State.nodeState, State.node, hnodes])
      (congrArg State.ready ht :) (fun h => (congrArg State.queue ht :).trans h) (fun h => (congrArg State.idle ht :).trans h)
  case nodes hn same =>
    intro ht
    have hp : s.plat.phase = .halted := by rw [sameButNodes_plat same] at ht; exact ht
    obtain ⟨hdown, hready, hqueue, hidle⟩ := hs hp
    obtain ⟨hdown', hready'⟩ := hn.allDown hp ⟨hdown, hready⟩
    exact ⟨hdown', hready', by rw [← same] at hqueue; exact hqueue, by rw [← same] at hidle; exact hidle⟩
  case arrives r _ => exact harrive r hs
  case decided k b _ =>
    unfold State.decided
    dsimp only
    split
    · exact harrive (u := { s with monitor := s.monitor.afterDecision k _ }) _ hs
    · exact hs
  case viaSettle =>
    refine hmoving ?_
    unfold State.viaSettledAt
    dsimp only
    split
    · nofun
    · split <;> nofun
  case settle => exact hmoving nofun
  case handForced r _ _ _ => exact hstarted _ r
  case repair => exact hmoving nofun
  case takeHead r rest hp _ =>
    unfold State.takenInSettled
    split
    · exact hmoving (by change s.plat.phase ≠ _; rw [hp]; nofun)
    · exact hstarted _ r
  case trip L hL =>
    rw [startTrip_eq hL]
    refine hmoving ?_
    dsimp only
    split <;> nofun
  case halt hdown hready =>
    refine fun _ => ⟨fun n => ?_, ?_, rfl, rfl⟩ <;> unfold State.haltedFrom <;> rw [flushQueue_eq]
    · exact hdown n
    · exact hready
  case unhalt => exact hmoving nofun
  case logs r =>
    have hframe := storeFault_frame s r
    have hnodes : (s.storeFault r).nodes = s.nodes := (congrArg State.nodes hframe :)
    exact hkeep (congrArg (fun u => u.plat.phase) hframe :) (fun n => by simp only [State.nodeState, State.node, hnodes])
      (congrArg State.ready hframe :) (fun h => (congrArg State.queue hframe :).trans h)
      (fun h => (congrArg State.idle hframe :).trans h)
  case cancelled =>
    refine hkeep rfl (fun _ => rfl) rfl (fun h => ?_) id
    change s.queue.filter _ = []
    rw [h]
    rfl
  case idleStops => exact hkeep rfl (fun _ => rfl) rfl id fun _ => rfl
  case ticked =>
    refine hkeep rfl (fun n => ?_) rfl id fun h => ?_
    · have htick : s.tickTimers.node n = (s.node n).tick := node_map s NodeLive.tick n
      rw [nodeState_eq, htick]
      rfl
    · change tickTimer s.idle = none
      rw [h]
      rfl
  case adopted hp _ hc =>
    have hplat : t.plat = s.plat := (congrArg State.plat hc.1 :)
    exact hmoving (by rw [hplat, hp]; nofun)
  all_goals exact hs

/-! ### The idle timer -/

theorem Event.idleLaw {s t : State} (h : Event s t) (hs : s.idleLaw) : t.idleLaw := by
  have hkeep : ∀ {t : State}, t.plat.phase = s.plat.phase → t.plat.settled = s.plat.settled →
      (t.idle.isSome = true → s.idle.isSome = true) → t.idleLaw := fun hp hL hi ht => by
    rw [hp, hL]; exact hs (hi ht)
  have harrive : ∀ {u : State} (r : Request), u.idleLaw → (u.arrive r).idleLaw := fun {u} r hu => by
    have hrestarted : u.idleRestarted.isSome = true → u.plat.phase = .settled ∧ u.plat.settled = .standby := fun h => by
      rw [State.idleRestarted, Option.isSome_map] at h
      exact hu h
    have harr := arrived u r
    generalize u.arrive r = t at harr ⊢
    cases harr
    case discarded => exact hu
    case overtakes => nofun
    all_goals exact hrestarted
  cases h
  case unseen ht =>
    have hplat : t.plat = s.plat := (congrArg State.plat ht :)
    have hidle : t.idle = s.idle := (congrArg State.idle ht :)
    exact hkeep (by rw [hplat]) (by rw [hplat]) fun h => hidle ▸ h
  case nodes _ same =>
    have hplat := sameButNodes_plat same
    exact hkeep (by rw [hplat]) (by rw [hplat]) fun h => by rw [← same]; exact h
  case arrives r _ => exact harrive r hs
  case decided k b _ =>
    unfold State.decided
    dsimp only
    split
    · exact harrive (u := { s with monitor := s.monitor.afterDecision k _ }) _ hs
    · exact hs
  case viaSettle v hdue _ =>
    refine fun hi => ?_
    have hp := (hs hi).1
    rw [settleDue_iff] at hdue
    simp [hp, Phase.inFlight] at hdue
  case settle L hdue _ _ =>
    intro hi
    have hnone : s.idle = none := by
      by_contra h
      have hp := (hs (Option.isSome_iff_ne_none.2 h)).1
      have hin := hdue.1
      rw [hp] at hin
      cases hin
    refine ⟨rfl, ?_⟩
    change L = .standby
    by_contra hL
    have hidle : (s.settledAt L).idle = none := (if_neg fun h => hL h.1).trans hnone
    rw [hidle] at hi
    cases hi
  case handForced => nofun
  case repair => nofun
  case takeHead r rest hp _ =>
    unfold State.takenInSettled
    split
    · exact hs
    · nofun
  case trip L hL => rw [startTrip_eq hL]; nofun
  case halt => nofun
  case unhalt hp =>
    intro hi
    rw [(hs hi).1] at hp
    cases hp
  case logs r =>
    have hframe := storeFault_frame s r
    have hplat : (s.storeFault r).plat = s.plat := (congrArg State.plat hframe :)
    have hidle : (s.storeFault r).idle = s.idle := (congrArg State.idle hframe :)
    exact hkeep (by rw [hplat]) (by rw [hplat]) fun h => hidle ▸ h
  case idleStops => nofun
  case ticked =>
    refine hkeep rfl rfl fun h => ?_
    have hmap : (tickTimer s.idle).isSome = true := h
    rwa [tickTimer, Option.isSome_map] at hmap
  case adopted hp _ hc =>
    obtain ⟨hrest, -, -, -, -, -, hidle⟩ := hc
    have hplat : t.plat = s.plat := (congrArg State.plat hrest :)
    intro hi
    rw [hplat]
    rw [hidle] at hi
    split_ifs at hi with _ hstart
    · cases hi
    · exact ⟨hstart.1, hstart.2.1⟩
    · exact hs hi
  all_goals exact hs

/-! ### The law -/

theorem startBlocks_platformLaw (s : State) : s.startBlocks.platformLaw := by
  refine ⟨⟨rfl, rfl, nofun, nofun, nofun, nofun⟩, nofun, nofun⟩

/-- A predicate that reads the sequencing alone carries over to a state with the same one. -/
theorem platformLaw_of_sequencing {s t : State} (h : t.sequencing = s.sequencing) (hs : s.platformLaw) : t.platformLaw := by
  have hiff : t.sequencing.platformLaw = s.sequencing.platformLaw := congrArg State.platformLaw h
  have hs' : s.sequencing.platformLaw := hs
  rw [← hiff] at hs'
  exact hs'

/-- A stop takes the nodes down and ends the hold timer and the idle timer. -/
theorem stopped_platformLaw {s : State} (hs : s.platformLaw) : ({ s.deenergizeAll with
    plat := { s.plat with holdTimer := none }, idle := none
    monitor := { s.monitor with deadline := none } } : State).platformLaw := by
  obtain ⟨⟨htarget, hrecycle, hvia, hflight, htrip, -⟩, hhalted, -⟩ := hs
  refine ⟨⟨htarget, hrecycle, hvia, hflight, htrip, nofun⟩, fun hp => ?_, nofun⟩
  exact ⟨deenergizeAll_state s, rfl, (hhalted hp).2.2.1, rfl⟩

theorem Event.platformLaw {s t : State} (h : Event s t) (hs : s.platformLaw) : t.platformLaw :=
  ⟨h.platLaw hs.1, h.haltedLaw hs.2.1, h.idleLaw hs.2.2⟩

theorem Act.platformLaw {s t : State} (h : Act s t) (hs : s.platformLaw) : t.platformLaw :=
  h.keeps_sequencing (fun _ _ => Event.platformLaw) (fun _ => startBlocks_platformLaw _)
    (fun s _ _ heq hs => platformLaw_of_sequencing (heq.trans (stopEverything_sequencing s)) (stopped_platformLaw hs))
    (fun _ _ _ heq hs => platformLaw_of_sequencing heq hs) hs

/-- Settles O56: by the events and acts. -/
theorem everyStepKeepsThePlatformRecord : Obligations.EveryStepKeepsThePlatformRecord :=
  fun _ _ hs h => step_keeps (fun _ _ => Act.platformLaw) (fun _ _ h => h) h hs

end Sys2Proof.Machine

/-! # One node moves

What every operation on one node does with its record, the budget in use and the ready queue, in the form that the node laws need. -/

namespace Sys2Proof.Machine

/-! ### A node's record -/

/-- Each timer of the record runs in its own state alone (R18). -/
def NodeLive.timersFit (l : NodeLive) : Prop :=
  l.rise.isSome = (l.state == .rising) ∧ l.hold.isSome = (l.state == .settling) ∧ l.fall.isSome = (l.state == .draining)

/-- The record holds a charge exactly in RISING and SETTLING (R42). -/
def NodeLive.chargeFits (l : NodeLive) : Prop := l.charge.isSome = l.state.charged

/-- What an operation on node `n` does, from `s` to `t`, when its record fits its state. -/
structure State.Moved (s t : State) (n : NodeId) : Prop where
  others : ∀ m, m ≠ n → t.node m = s.node m
  timers : (s.node n).timersFit → (t.node n).timersFit
  drains : isGate n = true → t.nodeState n ≠ .draining
  charge : (s.node n).chargeFits → (t.node n).chargeFits
  budget : (s.node n).chargeFits → (s.node n).charge.getD 0 ≤ s.budgetInUse →
    t.budgetInUse + (s.node n).charge.getD 0 = s.budgetInUse + (t.node n).charge.getD 0
  /-- the node leaves the queue, was not and is not in it, or joins it -/
  ready : (t.nodeState n ≠ .ready ∧ t.ready = s.ready.filter fun x => x.node != n) ∨
    (t.nodeState n ≠ .ready ∧ s.nodeState n ≠ .ready ∧ t.ready = s.ready) ∨
    (t.nodeState n = .ready ∧ ∃ e : ReadyEntry, e.node = n ∧ t.ready = insertReady e (s.ready.filter fun x => x.node != n))
  rises : (t.nodeState n).energized = true →
    (s.nodeState n).energized = true ∨ ∀ q ∈ (s.record n).prereqs, s.nodeState q = .on
  falls : s.nodeState n = .on → t.nodeState n ≠ .on → s.heldUp n = false
  charges : (t.nodeState n).charged = true →
    (s.nodeState n).charged = true ∨ ((s.record n).used = true ∧ s.plat.phase ≠ .settled ∧ s.plat.phase ≠ .halted)
  fits : t.budgetInUse ≤ s.budgetInUse ∨ t.budgetInUse ≤ s.active.policy.budget.toNat

theorem charge_of_not_charged {l : NodeLive} (h : l.chargeFits) (hst : l.state.charged = false) : l.charge = none := by
  rw [NodeLive.chargeFits, hst] at h
  simpa using h

theorem settledIn_timersFit (l : NodeLive) {st : NodeState} (h : st.energized = false ∨ st = .on) (hd : st ≠ .draining) :
    (l.settledIn st).timersFit := by
  cases st <;> simp_all [NodeLive.timersFit, NodeLive.settledIn, NodeState.energized]

theorem budgetWithout_add {s : State} {n : NodeId} (h : (s.node n).charge.getD 0 ≤ s.budgetInUse) :
    s.budgetWithout n + (s.node n).charge.getD 0 = s.budgetInUse :=
  Nat.sub_add_cancel h

/-! ### Each operation -/

theorem moved_place {s : State} {n : NodeId} {st : NodeState} (hne : s.nodeState n ≠ st)
    (hfrom : s.nodeState n = .off ∨ s.nodeState n = .waiting ∨ s.nodeState n = .held ∨ s.nodeState n = .ready)
    (hto : st = .waiting ∨ st = .held ∨ st = .ready) : s.Moved (s.place n st) n := by
  have hstate : (s.place n st).nodeState n = st := by rw [place_eq hne, nodeState_eq, withNode_node_self]
  have hon : s.nodeState n ≠ .on := by rcases hfrom with h | h | h | h <;> rw [h] <;> nofun
  rw [place_eq hne] at hstate ⊢
  refine
    { others := fun m hm => withNode_node_of_ne s _ _ _ hm
      timers := fun h => ?_, drains := fun _ => ?_, charge := fun h => ?_, budget := fun _ _ => ?_, ready := ?_
      rises := fun h => ?_, falls := fun h => absurd h hon, charges := fun h => ?_, fits := .inl (Nat.le_refl _) }
  · rw [withNode_node_self]
    unfold NodeLive.timersFit at h ⊢
    rw [nodeState_eq] at hfrom
    rcases hfrom with hf | hf | hf | hf <;> rcases hto with rfl | rfl | rfl <;> rw [hf] at h <;> exact h
  · rw [hstate]
    rcases hto with rfl | rfl | rfl <;> nofun
  · rw [withNode_node_self]
    unfold NodeLive.chargeFits at h ⊢
    rw [nodeState_eq] at hfrom
    rcases hfrom with hf | hf | hf | hf <;> rcases hto with rfl | rfl | rfl <;> rw [hf] at h <;> exact h
  · rw [withNode_node_self, withNode_budgetInUse]
  · rw [hstate, withNode_ready]
    by_cases hr : st = .ready
    · exact .inr (.inr ⟨hr, _, rfl, if_pos hr⟩)
    · exact .inl ⟨hr, if_neg hr⟩
  · rw [hstate] at h
    rcases hto with rfl | rfl | rfl <;> cases h
  · rw [hstate] at h
    rcases hto with rfl | rfl | rfl <;> cases h

/-- The node comes to rest in a state without energy, or in ON, and its charge is released. -/
theorem moved_settledIn {s : State} {n : NodeId} {l : NodeLive} {st : NodeState} {r : List ReadyEntry}
    (hstate : l.state = st) (hcharge : l.charge = none) (htimers : l.timersFit) (hdrain : isGate n = true → st ≠ .draining)
    (hst : st.charged = false) (hready : st ≠ .ready)
    (hr : r = s.ready.filter (fun x => x.node != n) ∨ s.nodeState n ≠ .ready ∧ r = s.ready)
    (hrises : st.energized = true → (s.nodeState n).energized = true)
    (hfalls : s.nodeState n = .on → s.heldUp n = false) : s.Moved (s.withNode n l (s.budgetWithout n) r) n := by
  have hnode : (s.withNode n l (s.budgetWithout n) r).node n = l := withNode_node_self s n l _ r
  have hnodeState : (s.withNode n l (s.budgetWithout n) r).nodeState n = st := by rw [nodeState_eq, hnode, hstate]
  exact
    { others := fun m hm => withNode_node_of_ne s _ _ _ hm
      timers := fun _ => by rw [hnode]; exact htimers
      drains := fun hg => hnodeState ▸ hdrain hg
      charge := fun _ => by rw [hnode, NodeLive.chargeFits, hcharge, hstate, hst]; rfl
      budget := fun _ hle => by rw [hnode, hcharge, withNode_budgetInUse, budgetWithout_add hle]; rfl
      ready := by
        rw [hnodeState]
        rcases hr with rfl | ⟨hne, rfl⟩
        · exact .inl ⟨hready, rfl⟩
        · exact .inr (.inl ⟨hready, hne, rfl⟩)
      rises := fun h => .inl (hrises (hnodeState ▸ h))
      falls := fun h _ => hfalls h
      charges := fun h => by rw [hnodeState, hst] at h; cases h
      fits := .inl (Nat.sub_le _ _) }

theorem moved_off {s : State} {n : NodeId}
    (hfrom : s.nodeState n = .waiting ∨ s.nodeState n = .held ∨ s.nodeState n = .ready ∨ s.nodeState n = .draining) :
    s.Moved (s.toOff n) n := by
  rw [toOff_eq (by rcases hfrom with h | h | h | h <;> simp [h])]
  refine moved_settledIn rfl rfl (settledIn_timersFit _ (.inl rfl) nofun) (fun _ => nofun) rfl nofun (.inl rfl) nofun fun h => ?_
  rcases hfrom with e | e | e | e <;> rw [e] at h <;> cases h

theorem droppedRecord_timersFit (s : State) (n : NodeId) : (s.droppedRecord n).timersFit := by
  unfold State.droppedRecord
  split <;> exact ⟨rfl, rfl, rfl⟩

theorem droppedRecord_state_cases (s : State) (n : NodeId) :
    (isGate n = true ∧ (s.droppedRecord n).state = .off) ∨ (isGate n = false ∧ (s.droppedRecord n).state = .draining) := by
  unfold State.droppedRecord
  cases isGate n
  · exact .inr ⟨rfl, rfl⟩
  · exact .inl ⟨rfl, rfl⟩

theorem droppedRecord_charge (s : State) (n : NodeId) : (s.droppedRecord n).charge = none := by
  unfold State.droppedRecord
  split <;> rfl

theorem droppedRecord_not_charged (s : State) (n : NodeId) : (s.droppedRecord n).state.charged = false := by
  rcases droppedRecord_state_cases s n with ⟨-, h⟩ | ⟨-, h⟩ <;> rw [h] <;> rfl

theorem droppedRecord_not_ready (s : State) (n : NodeId) : (s.droppedRecord n).state ≠ .ready := by
  rcases droppedRecord_state_cases s n with ⟨-, h⟩ | ⟨-, h⟩ <;> rw [h] <;> nofun

theorem droppedRecord_gate_not_draining (s : State) {n : NodeId} (h : isGate n = true) :
    (s.droppedRecord n).state ≠ .draining := by
  rcases droppedRecord_state_cases s n with ⟨-, e⟩ | ⟨e, -⟩
  · rw [e]; nofun
  · rw [h] at e; cases e

theorem moved_drop {s : State} {n : NodeId} (hfrom : (s.nodeState n).energized = true)
    (hfree : s.nodeState n = .on → s.heldUp n = false) : s.Moved (s.drop n) n := by
  rw [drop_eq hfrom]
  refine moved_settledIn rfl (droppedRecord_charge s n) (droppedRecord_timersFit s n)
    (fun h => droppedRecord_gate_not_draining s h) (droppedRecord_not_charged s n) (droppedRecord_not_ready s n) ?_
    (fun _ => hfrom) hfree
  unfold State.readyAfterDrop
  split
  · exact .inl rfl
  · refine .inr ⟨fun h => ?_, rfl⟩
    rw [h] at hfrom
    cases hfrom

theorem settledIn_on_timersFit (l : NodeLive) : ({ l.settledIn .on with retry := 0 } : NodeLive).timersFit := ⟨rfl, rfl, rfl⟩

theorem moved_turnOn_withNode {s : State} {n : NodeId} (hfrom : s.nodeState n = .rising ∨ s.nodeState n = .settling) :
    s.Moved (s.withNode n { (s.node n).settledIn .on with retry := 0 } (s.budgetWithout n) s.ready) n := by
  refine moved_settledIn rfl rfl (settledIn_on_timersFit _) (fun _ => nofun) rfl nofun (.inr ⟨?_, rfl⟩) (fun _ => ?_) fun h => ?_
  · rcases hfrom with e | e <;> rw [e] <;> nofun
  · rcases hfrom with e | e <;> rw [e] <;> rfl
  · rcases hfrom with e | e <;> rw [e] at h <;> cases h

theorem moved_turnOn {s : State} {n : NodeId} (hfrom : s.nodeState n = .settling) : s.Moved (s.becomeOn n) n := by
  rw [becomeOn_eq (by rw [hfrom]; nofun)]
  exact moved_turnOn_withNode (.inr hfrom)

theorem moved_settling {s : State} {n : NodeId} (hfrom : s.nodeState n = .rising) : s.Moved (s.enterSettling n) n := by
  have hne : s.nodeState n ≠ .settling := by rw [hfrom]; nofun
  by_cases ht : (s.record n).settleHold = 0
  · rw [enterSettling_eq_of_no_hold hne ht]
    exact moved_turnOn_withNode (.inl hfrom)
  · rw [enterSettling_eq_of_hold hne ht]
    have hstate : ∀ t, ((s.node n).holding t).state = .settling := fun _ => rfl
    refine
      { others := fun m hm => withNode_node_of_ne s _ _ _ hm
        timers := fun _ => by rw [withNode_node_self]; exact ⟨rfl, rfl, rfl⟩
        drains := fun _ => by rw [nodeState_eq, withNode_node_self, hstate]; nofun
        charge := fun h => ?_, budget := fun _ _ => by rw [withNode_node_self]; rfl
        ready := .inr (.inl ⟨by rw [nodeState_eq, withNode_node_self, hstate]; nofun, by rw [hfrom]; nofun, rfl⟩)
        rises := fun _ => .inl (by rw [hfrom]; rfl)
        falls := fun h => by rw [hfrom] at h; cases h
        charges := fun _ => .inl (by rw [hfrom]; rfl), fits := .inl (Nat.le_refl _) }
    rw [withNode_node_self]
    unfold NodeLive.chargeFits at h ⊢
    rw [← nodeState_eq, hfrom] at h
    exact h

theorem nodeState_of_head {s : State} (hs : s.readyLaw) {n : NodeId} (h : s.headFits n) : s.nodeState n = .ready := by
  obtain ⟨⟨x, rest, hq, rfl⟩, -⟩ := h
  refine (hs.2.2 _).1 (List.mem_map.2 ⟨x, ?_, rfl⟩)
  rw [hq]
  exact List.mem_cons_self

theorem moved_grantBegun {s : State} {n : NodeId} (hready : s.nodeState n = .ready) (hfits : s.headFits n)
    (hused : (s.record n).used = true) (hon : ∀ q ∈ (s.record n).prereqs, s.nodeState q = .on)
    (hhalted : s.plat.phase ≠ .halted) (hsettled : s.plat.phase ≠ .settled) : s.Moved (s.grantBegun n) n := by
  have hstate := grantBegun_nodeState s n
  have hnode : (s.grantBegun n).node n = { s.node n with
      state := .rising, rise := some (s.record n).riseTime.toNat, charge := some (s.record n).weight.toNat, noted := false
      mode := some (s.modeNow n) } := withNode_node_self s n _ _ _
  refine
    { others := fun m hm => withNode_node_of_ne s _ _ _ hm
      timers := fun h => ?_, drains := fun _ => by rw [hstate]; nofun
      charge := fun _ => by rw [hnode]; rfl
      budget := fun h _ => ?_, ready := .inl ⟨by rw [hstate]; nofun, rfl⟩, rises := fun _ => .inr hon
      falls := fun h => by rw [hready] at h; cases h
      charges := fun _ => .inr ⟨hused, hsettled, hhalted⟩, fits := .inr hfits.2 }
  · rw [hnode]
    obtain ⟨-, hhold, hfall⟩ := h
    rw [← nodeState_eq, hready] at hhold hfall
    exact ⟨rfl, hhold, hfall⟩
  · have hnone : (s.node n).charge = none := charge_of_not_charged h (by rw [← nodeState_eq, hready]; rfl)
    rw [hnode, hnone]
    rfl

/-- A step of the nodes moves one node, fails one with what stands on it, takes all down, or leaves them but for FAILED ones that go to OFF. -/
theorem NodesStep.moved {s t : State} (h : NodesStep s t) (hs : s.readyLaw) :
    (∃ n, s.Moved t n) ∨ (∃ n, s.nodeState n ≠ .failed ∧ t = s.shed n) ∨
    ((∀ n, (t.nodeState n = .off ∨ t.nodeState n = .failed) ∧ (t.node n).charge = none ∧
      (t.node n).rise = none ∧ (t.node n).hold = none ∧ (t.node n).fall = none) ∧ t.budgetInUse = 0 ∧ t.ready = []) ∨
    s.NodesKept t := by
  cases h
  case look hk => exact .inr (.inr (.inr hk))
  case place n st hne hfrom hto _ => exact .inl ⟨n, moved_place hne hfrom hto⟩
  case off n hfrom => exact .inl ⟨n, moved_off hfrom⟩
  case drop n hfrom hfree => exact .inl ⟨n, moved_drop hfrom hfree⟩
  case grant n hfits hused hon hhalted hsettled =>
    have hready := nodeState_of_head hs hfits
    exact .inl ⟨n, moved_grantBegun hready hfits (hused hready) (hon hready) hhalted (hsettled hready)⟩
  case settling n hfrom => exact .inl ⟨n, moved_settling hfrom⟩
  case turnOn n hfrom => exact .inl ⟨n, moved_turnOn hfrom⟩
  case shed n hfrom => exact .inr (.inl ⟨n, hfrom, rfl⟩)
  case allOff hnode hbudget hready => exact .inr (.inr (.inl ⟨hnode, hbudget, hready⟩))

end Sys2Proof.Machine

/-! # The laws of the nodes

The ready queue, the charges and the budget, the timers, and the prerequisites of energized nodes, through every event and every act. -/

namespace Sys2Proof.Machine

/-! ### What an event can do to the nodes -/

theorem nodesKept_of_nodes {s t : State} (hn : t.nodes = s.nodes) (hb : t.budgetInUse = s.budgetInUse)
    (hr : t.ready = s.ready) : s.NodesKept t := by
  have hnode : ∀ n, t.node n = s.node n := fun n => by rw [State.node, hn]; rfl
  exact ⟨fun n => .inl (congrArg NodeLive.state (hnode n)), fun n => by rw [hnode], fun n => by rw [hnode]; exact ⟨rfl, rfl, rfl⟩,
    hb, hr⟩

/-- The nodes of a map that keeps charges and timers, and moves FAILED nodes to OFF alone. -/
theorem nodesKept_of_map {s t : State} (f : NodeLive → NodeLive) (hn : t.nodes = s.nodes.map f)
    (hb : t.budgetInUse = s.budgetInUse) (hr : t.ready = s.ready)
    (hstate : ∀ l, (f l).state = l.state ∨ l.state = .failed ∧ (f l).state = .off)
    (hrest : ∀ l, (f l).charge = l.charge ∧ (f l).rise.isSome = l.rise.isSome ∧ (f l).hold.isSome = l.hold.isSome ∧
      (f l).fall.isSome = l.fall.isSome) : s.NodesKept t := by
  have hnode : ∀ n, t.node n = f (s.node n) := fun n => by simp [State.node, hn]
  exact
    { state := fun n => by rw [nodeState_eq t, hnode]; exact hstate _
      charge := fun n => by rw [hnode]; exact (hrest _).1
      timers := fun n => by rw [hnode]; exact (hrest _).2
      budget := hb, ready := hr }

theorem nodesSettled_kept {s t : State} {L : Level} (hn : t.nodes = s.nodesSettled L) (hb : t.budgetInUse = s.budgetInUse)
    (hr : t.ready = s.ready) : s.NodesKept t := by
  refine nodesKept_of_map _ hn hb hr (fun l => ?_) fun l => ⟨rfl, rfl, rfl, rfl⟩
  dsimp only
  split
  · next h => exact .inr ⟨h.2, rfl⟩
  · exact .inl rfl

theorem tick_kept (s : State) : s.NodesKept s.tickTimers := by
  refine nodesKept_of_map NodeLive.tick rfl rfl rfl (fun l => .inl rfl) fun l => ?_
  simp [NodeLive.tick, tickTimer]

theorem nodesKept_of_besideRequests {s t : State} (h : t.besideRequests = s.besideRequests) : s.NodesKept t :=
  nodesKept_of_nodes (congrArg State.nodes h :) (congrArg State.budgetInUse h :) (congrArg State.ready h :)

/-- A node that conforms holds no charge (R57). -/
theorem not_charged_of_conforms {s : State} {L : Level} {n : NodeId} (h : s.conforms L n = true)
    (hu : (s.record n).used = true) : (s.nodeState n).charged = false := by
  have hc := (conforms_iff s L n).1 h hu
  split at hc
  · rcases hc with e | e | e <;> rw [e] <;> rfl
  · rcases hc with e | e <;> rw [e] <;> rfl

/-- Where a used node may hold a charge, `t` is neither SETTLED nor HALTED. -/
def State.risesGoOn (s t : State) : Prop :=
  ∀ n, (s.record n).used = true → (s.nodeState n).charged = true → s.plat.phase ≠ .settled → s.plat.phase ≠ .halted →
    t.plat.phase ≠ .settled ∧ t.plat.phase ≠ .halted

theorem risesGoOn_of_phase {s t : State} (h : t.plat.phase = s.plat.phase) : s.risesGoOn t := fun _ _ _ hp hq => by
  rw [h]; exact ⟨hp, hq⟩

theorem startedFor_phase (s : State) (r : Request) : (s.startedFor r).plat.phase ≠ .settled ∧ (s.startedFor r).plat.phase ≠ .halted := by
  unfold State.startedFor
  dsimp only
  split
  · exact ⟨nofun, nofun⟩
  · split <;> exact ⟨nofun, nofun⟩

theorem arrive_risesGoOn (s : State) (r : Request) : s.risesGoOn (s.arrive r) := by
  have harr := arrived s r
  generalize s.arrive r = t at harr ⊢
  cases harr
  case overtakes => exact fun _ _ _ _ _ => startedFor_phase _ r
  all_goals exact risesGoOn_of_phase rfl

/-- An event moves the nodes with the rest unchanged, adopts the staged set in SETTLED, or leaves nodes and active set as they are. -/
theorem Event.nodes_cases {s t : State} (h : Event s t) : (NodesStep s t ∧ s.sameButNodes t) ∨
    (s.plat.phase = .settled ∧ s.carried t) ∨ (s.NodesKept t ∧ t.active = s.active ∧ s.risesGoOn t) := by
  have hsame : ∀ {t : State}, t.nodes = s.nodes → t.budgetInUse = s.budgetInUse → t.ready = s.ready → t.active = s.active →
      t.plat.phase = s.plat.phase → (NodesStep s t ∧ s.sameButNodes t) ∨ (s.plat.phase = .settled ∧ s.carried t) ∨
        (s.NodesKept t ∧ t.active = s.active ∧ s.risesGoOn t) := fun hn hb hr ha hp =>
    .inr (.inr ⟨nodesKept_of_nodes hn hb hr, ha, risesGoOn_of_phase hp⟩)
  cases h
  case unseen ht =>
    exact hsame (congrArg State.nodes ht :) (congrArg State.budgetInUse ht :) (congrArg State.ready ht :)
      (congrArg State.active ht :) (congrArg (fun u => u.plat.phase) ht :)
  case nodes h same => exact .inl ⟨h, same⟩
  case arrives r _ =>
    have hrest := arrive_besideRequests s r
    exact .inr (.inr ⟨nodesKept_of_besideRequests hrest, (congrArg State.active hrest :), arrive_risesGoOn s r⟩)
  case decided k b _ =>
    have hrest := decided_besideRequests s k (s.stageDecision b)
    have hkept := nodesKept_of_nodes (s := s) (t := s.decided k (s.stageDecision b)) (congrArg State.nodes hrest :) (congrArg State.budgetInUse hrest :)
      (congrArg State.ready hrest :)
    refine .inr (.inr ⟨hkept, (congrArg State.active hrest :), ?_⟩)
    unfold State.decided
    dsimp only
    split
    · exact arrive_risesGoOn { s with monitor := s.monitor.afterDecision k _ } _
    · exact risesGoOn_of_phase rfl
  case viaSettle v hdue _ =>
    refine .inr (.inr ⟨nodesSettled_kept rfl rfl rfl, rfl, fun _ _ _ _ _ => ?_⟩)
    unfold State.viaSettledAt
    dsimp only
    split
    · exact ⟨nofun, nofun⟩
    · split <;> exact ⟨nofun, nofun⟩
  case settle L hdue _ _ =>
    refine .inr (.inr ⟨nodesSettled_kept rfl rfl rfl, rfl, fun n hu hc _ _ => ?_⟩)
    obtain ⟨-, -, -, L', -, hall⟩ := hdue
    rw [not_charged_of_conforms (hall n) hu] at hc
    cases hc
  case handForced r _ _ _ =>
    have hrest := overtakenBy_besideRequests { s with queue := s.queue.filter fun q => q.source != r.source } r
    exact .inr (.inr ⟨nodesKept_of_besideRequests hrest, (congrArg State.active hrest :), fun _ _ _ _ _ => startedFor_phase _ r⟩)
  case repair hp => exact .inr (.inr ⟨nodesKept_of_nodes rfl rfl rfl, rfl, fun _ _ _ _ _ => ⟨nofun, nofun⟩⟩)
  case takeHead r rest hp _ =>
    have hrest := takenInSettled_besideRequests { s with queue := rest } r
    exact .inr (.inr ⟨nodesKept_of_besideRequests hrest, (congrArg State.active hrest :), fun _ _ _ hne _ => absurd hp hne⟩)
  case trip L hL =>
    have hrest := startTrip_besideRequests (s := s) hL
    refine .inr (.inr ⟨nodesKept_of_besideRequests hrest, (congrArg State.active hrest :), fun _ _ _ _ _ => ?_⟩)
    rw [startTrip_eq hL]
    dsimp only
    split <;> exact ⟨nofun, nofun⟩
  case halt hdown _ =>
    have hrest := haltedFrom_besideRequests s
    refine .inr (.inr ⟨nodesKept_of_besideRequests hrest, (congrArg State.active hrest :), fun n _ hc _ _ => ?_⟩)
    rcases hdown n with e | e <;> rw [e] at hc <;> cases hc
  case unhalt hp => exact .inr (.inr ⟨nodesKept_of_nodes rfl rfl rfl, rfl, fun _ _ _ _ hne => absurd hp hne⟩)
  case logs r =>
    have hframe := storeFault_frame s r
    exact hsame (congrArg State.nodes hframe :) (congrArg State.budgetInUse hframe :) (congrArg State.ready hframe :)
      (congrArg State.active hframe :) (congrArg (fun u => u.plat.phase) hframe :)
  case ticked => exact .inr (.inr ⟨tick_kept s, rfl, risesGoOn_of_phase rfl⟩)
  case adopted hp _ hc => exact .inr (.inl ⟨hp, hc⟩)
  all_goals exact hsame rfl rfl rfl rfl rfl

/-! ### The records after SHED and after a COMMIT -/

/-- After SHED: a FAILED node, those taken down, and the rest as they were. -/
theorem shed_node_cases {s : State} {n : NodeId} (h : s.nodeState n ≠ .failed) (m : NodeId) :
    (m = n ∧ (s.shed n).node m = (s.node n).settledIn .failed) ∨
    (m ≠ n ∧ s.shedTakes n m = true ∧ (s.shed n).node m = s.droppedRecord m) ∨
    (m ≠ n ∧ s.shedTakes n m = false ∧ (s.shed n).node m = s.node m) := by
  obtain ⟨hself, hother, -, -⟩ := shed_shedNodes h
  by_cases hm : m = n
  · subst hm
    exact .inl ⟨rfl, hself⟩
  · have hnode := hother m hm
    cases ht : s.shedTakes n m <;> rw [ht] at hnode
    · exact .inr (.inr ⟨hm, rfl, hnode⟩)
    · exact .inr (.inl ⟨hm, rfl, hnode⟩)

/-- After the copy: a node taken down, a FAILED one made UNUSED, and the rest resampled. -/
theorem carried_node_cases {s t : State} (h : s.carried t) (m : NodeId) :
    (s.adoptDrops m = true ∧ t.node m = s.adopted.droppedRecord m) ∨
    (s.adoptDrops m = false ∧ s.adoptClears m = true ∧ t.node m = (s.adopted.node m).settledIn .off) ∨
    (s.adoptDrops m = false ∧ s.adoptClears m = false ∧ t.node m = s.adopted.node m) := by
  have hnode : t.node m = s.adoptedRecord m := h.2.2.1 m
  rw [State.adoptedRecord] at hnode
  cases hd : s.adoptDrops m <;> rw [hd] at hnode
  · cases hc : s.adoptClears m <;> rw [hc] at hnode
    · exact .inr (.inr ⟨rfl, rfl, hnode⟩)
    · exact .inr (.inl ⟨rfl, rfl, hnode⟩)
  · exact .inl ⟨rfl, hnode⟩

theorem shedTakes_energized {s : State} {n m : NodeId} (h : s.shedTakes n m = true) : (s.nodeState m).energized = true := by
  simp only [State.shedTakes, Bool.and_eq_true] at h
  exact h.2

theorem adoptDrops_energized {s : State} {m : NodeId} (h : s.adoptDrops m = true) : (s.nodeState m).energized = true := by
  simp only [State.adoptDrops, Bool.and_eq_true] at h
  exact h.1

theorem not_ready_of_energized {st : NodeState} (h : st.energized = true) : st ≠ .ready := fun e => by rw [e] at h; cases h

/-! ### The ready queue -/

theorem before_trans {a b c : ReadyEntry} (hab : a.before b) (hbc : b.before c) : a.before c := by
  unfold ReadyEntry.before at *
  omega

theorem insertReady_perm (e : ReadyEntry) (q : List ReadyEntry) : (insertReady e q).Perm (e :: q) := by
  induction q with
  | nil => exact .refl _
  | cons x xs ih =>
    unfold insertReady
    split
    · exact (List.Perm.cons x ih).trans (List.Perm.swap e x xs)
    · exact .refl _

/-- An entry of another node takes its place in the order. -/
theorem insertReady_pairwise {e : ReadyEntry} {q : List ReadyEntry} (hq : q.Pairwise ReadyEntry.before)
    (he : ∀ x ∈ q, x.node ≠ e.node) : (insertReady e q).Pairwise ReadyEntry.before := by
  induction q with
  | nil => exact List.pairwise_singleton _ _
  | cons x xs ih =>
    obtain ⟨hx, hxs⟩ := List.pairwise_cons.1 hq
    unfold insertReady
    split
    · next hlt =>
      have hbefore : x.before e := by simpa [ReadyEntry.before] using hlt
      refine List.pairwise_cons.2 ⟨fun y hy => ?_, ih hxs fun y hy => he y (List.mem_cons_of_mem x hy)⟩
      rcases List.mem_cons.1 ((insertReady_perm e xs).mem_iff.1 hy) with rfl | hy
      · exact hbefore
      · exact hx y hy
    · next hlt =>
      have hne : x.node.val ≠ e.node.val := fun h => he x List.mem_cons_self (Fin.ext h)
      have hbefore : e.before x := by
        simp only [Bool.or_eq_true, decide_eq_true_eq, Bool.and_eq_true, beq_iff_eq, not_or, not_and] at hlt
        unfold ReadyEntry.before
        omega
      refine List.pairwise_cons.2 ⟨fun y hy => ?_, hq⟩
      rcases List.mem_cons.1 hy with rfl | hy
      · exact hbefore
      · exact before_trans hbefore (hx y hy)

/-- The nodes that leave the queue are those that leave READY. -/
theorem readyLaw_of_filter {s t : State} (hs : s.readyLaw) (keep : NodeId → Bool)
    (hready : t.ready = s.ready.filter fun x => keep x.node)
    (hstate : ∀ n, t.nodeState n = .ready ↔ s.nodeState n = .ready ∧ keep n = true) : t.readyLaw := by
  obtain ⟨hsorted, hnodup, hmem⟩ := hs
  unfold State.readyLaw
  rw [hready]
  refine ⟨hsorted.filter _, hnodup.sublist (List.filter_sublist.map _), fun n => ?_⟩
  rw [hstate, ← hmem]
  constructor
  · intro h
    obtain ⟨x, hx, rfl⟩ := List.mem_map.1 h
    obtain ⟨hx, hk⟩ := List.mem_filter.1 hx
    exact ⟨List.mem_map_of_mem hx, hk⟩
  · rintro ⟨h, hk⟩
    obtain ⟨x, hx, rfl⟩ := List.mem_map.1 h
    exact List.mem_map_of_mem (List.mem_filter.2 ⟨hx, hk⟩)

/-- A node that becomes READY joins the queue. -/
theorem readyLaw_of_insert {s t : State} (hs : s.readyLaw) {n : NodeId} {e : ReadyEntry} (he : e.node = n)
    (hready : t.ready = insertReady e (s.ready.filter fun x => x.node != n)) (hn : t.nodeState n = .ready)
    (hother : ∀ m, m ≠ n → t.nodeState m = s.nodeState m) : t.readyLaw := by
  subst he
  have hrest : ∀ x ∈ s.ready.filter (fun x => x.node != e.node), x.node ≠ e.node := fun x hx => by
    simpa using (List.mem_filter.1 hx).2
  have hperm := (insertReady_perm e (s.ready.filter fun x => x.node != e.node)).map ReadyEntry.node
  unfold State.readyLaw
  rw [hready]
  refine ⟨insertReady_pairwise (hs.1.filter _) hrest, ?_, fun m => ?_⟩
  · refine hperm.nodup_iff.2 (List.nodup_cons.2 ⟨fun h => ?_, hs.2.1.sublist (List.filter_sublist.map _)⟩)
    obtain ⟨x, hx, hxe⟩ := List.mem_map.1 h
    exact hrest x hx hxe
  · rw [hperm.mem_iff, List.map_cons, List.mem_cons]
    by_cases hm : m = e.node
    · simp [hm, hn]
    · rw [hother m hm, ← hs.2.2]
      constructor
      · rintro (h | h)
        · exact absurd h hm
        · obtain ⟨x, hx, rfl⟩ := List.mem_map.1 h
          exact List.mem_map_of_mem (List.mem_filter.1 hx).1
      · intro h
        obtain ⟨x, hx, rfl⟩ := List.mem_map.1 h
        exact .inr (List.mem_map_of_mem (List.mem_filter.2 ⟨hx, by simpa using hm⟩))

theorem State.NodesKept.ready_iff {s t : State} (h : s.NodesKept t) (n : NodeId) :
    t.nodeState n = .ready ↔ s.nodeState n = .ready := by
  rcases h.state n with e | ⟨e, e'⟩ <;> simp [*]

theorem State.NodesKept.readyLaw {s t : State} (h : s.NodesKept t) (hs : s.readyLaw) : t.readyLaw :=
  readyLaw_of_filter hs (fun _ => true) (by rw [h.ready]; simp) fun n => by rw [h.ready_iff]; simp

theorem State.Moved.readyLaw {s t : State} {n : NodeId} (h : s.Moved t n) (hs : s.readyLaw) : t.readyLaw := by
  have hother : ∀ m, m ≠ n → t.nodeState m = s.nodeState m := fun m hm => by rw [nodeState_eq, h.others m hm]; rfl
  have hleaves : t.nodeState n ≠ .ready → t.ready = s.ready.filter (fun x => x.node != n) → t.readyLaw := fun hn hr =>
    readyLaw_of_filter hs (fun m => m != n) hr fun m => by
      by_cases hm : m = n
      · subst hm; simp [hn]
      · simp [hm, hother m hm]
  rcases h.ready with ⟨hn, hr⟩ | ⟨hn, hnot, hr⟩ | ⟨hn, e, he, hr⟩
  · exact hleaves hn hr
  · refine hleaves hn (hr.trans (List.filter_eq_self.2 fun x hx => ?_).symm)
    have hx' : s.nodeState x.node = .ready := (hs.2.2 _).1 (List.mem_map_of_mem hx)
    refine bne_iff_ne.2 fun e => hnot ?_
    rwa [e] at hx'
  · exact readyLaw_of_insert hs he hr hn hother

theorem shed_readyLaw {s : State} {n : NodeId} (h : s.nodeState n ≠ .failed) (hs : s.readyLaw) : (s.shed n).readyLaw := by
  refine readyLaw_of_filter hs (fun m => m != n && !(s.shedTakes n m && isGate m)) (shed_shedNodes h).2.2.2 fun m => ?_
  rw [nodeState_eq (s.shed n)]
  rcases shed_node_cases h m with ⟨rfl, hm⟩ | ⟨hne, ht, hm⟩ | ⟨hne, ht, hm⟩
  · simp [hm, NodeLive.settledIn]
  · have hnot := not_ready_of_energized (shedTakes_energized ht)
    simp [hm, droppedRecord_not_ready, hnot]
  · simp [hm, hne, ht, ← nodeState_eq]

theorem carried_readyLaw {s t : State} (h : s.carried t) (hs : s.readyLaw) : t.readyLaw := by
  refine readyLaw_of_filter hs (fun m => !(s.adoptClears m || (s.adoptDrops m && isGate m))) h.2.2.2.2.1 fun m => ?_
  rw [nodeState_eq t]
  rcases carried_node_cases h m with ⟨hd, hm⟩ | ⟨hd, hc, hm⟩ | ⟨hd, hc, hm⟩
  · have hnot := not_ready_of_energized (adoptDrops_energized hd)
    simp [hm, droppedRecord_not_ready, hnot]
  · simp [hm, hc, NodeLive.settledIn]
  · simp [hm, hd, hc, ← nodeState_eq, adopted_nodeState]

theorem Event.readyLaw {s t : State} (h : Event s t) (hs : s.readyLaw) : t.readyLaw := by
  rcases h.nodes_cases with ⟨hn, -⟩ | ⟨-, hc⟩ | ⟨hk, -, -⟩
  · rcases hn.moved hs with ⟨n, hm⟩ | ⟨n, hne, rfl⟩ | ⟨hdown, -, hr⟩ | hk
    · exact hm.readyLaw hs
    · exact shed_readyLaw hne hs
    · refine readyLaw_of_filter hs (fun _ => false) (by rw [hr]; simp) fun n => ?_
      rcases (hdown n).1 with e | e <;> simp [e]
    · exact hk.readyLaw hs
  · exact carried_readyLaw hc hs
  · exact hk.readyLaw hs

end Sys2Proof.Machine

/-! # Every step keeps the laws of the nodes -/

namespace Sys2Proof.Machine

/-! ### The acts at the nodes -/

theorem startBlocks_node (s : State) (n : NodeId) : s.startBlocks.node n = NodeLive.start := by
  unfold State.startBlocks State.node
  simp

theorem readyLaw_of_down {t : State} (hn : ∀ n, t.nodeState n = .off ∨ t.nodeState n = .failed) (hr : t.ready = []) :
    t.readyLaw := by
  unfold State.readyLaw
  rw [hr]
  refine ⟨.nil, List.nodup_nil, fun n => iff_of_false (List.not_mem_nil) ?_⟩
  rcases hn n with e | e <;> rw [e] <;> nofun

theorem startBlocks_nodeState (s : State) (n : NodeId) : s.startBlocks.nodeState n = .off := by
  rw [nodeState_eq, startBlocks_node]
  rfl

/-- What a stop leaves of the nodes (R38, R40, R50). -/
theorem stopped_nodes {s t : State} (h : t.sequencing = s.stopEverything.sequencing) :
    (∀ n, t.node n = { NodeLive.start with state := if s.nodeState n = .failed then .failed else .off }) ∧
      t.ready = [] ∧ t.budgetInUse = 0 ∧ t.active = s.active ∧ t.plat = { s.plat with holdTimer := none } := by
  have heq := h.trans (stopEverything_sequencing s)
  have hnodes : t.nodes = s.deenergizeAll.nodes := (congrArg State.nodes heq :)
  refine ⟨fun n => ?_, (congrArg State.ready heq :), (congrArg State.budgetInUse heq :), (congrArg State.active heq :),
    (congrArg State.plat heq :)⟩
  rw [← deenergizeAll_node, State.node, hnodes]
  rfl

theorem stopped_nodeState {s t : State} (h : t.sequencing = s.stopEverything.sequencing) (n : NodeId) :
    t.nodeState n = .off ∨ t.nodeState n = .failed := by
  rw [nodeState_eq, (stopped_nodes h).1]
  dsimp only
  split <;> simp

theorem Act.readyLaw {s t : State} (h : Act s t) (hs : s.readyLaw) : t.readyLaw := by
  refine h.keeps_sequencing (fun _ _ => Event.readyLaw) ?_ ?_ ?_ hs
  · exact fun s => readyLaw_of_down (fun n => .inl (startBlocks_nodeState _ n)) rfl
  · exact fun s t _ heq _ => readyLaw_of_down (stopped_nodeState heq) (stopped_nodes heq).2.1
  · intro s t _ heq hs
    have hlaw : t.sequencing.readyLaw = s.sequencing.readyLaw := congrArg State.readyLaw heq
    have hs' : s.sequencing.readyLaw := hs
    rw [← hlaw] at hs'
    exact hs'

/-- Settles O53: by the events and acts. -/
theorem everyStepKeepsTheReadyQueue : Obligations.EveryStepKeepsTheReadyQueue :=
  fun _ _ hs h => step_keeps (fun _ _ => Act.readyLaw) (fun _ _ h => h) h hs

/-! ### Charges and the budget -/

/-- The charge of a node, 0 where it holds none. -/
def State.chargeOf (s : State) (n : NodeId) : Nat := (s.node n).charge.getD 0

theorem chargeLaw_iff (s : State) : s.chargeLaw ↔ (∀ n, (s.node n).chargeFits) ∧ s.budgetInUse = nodeSum s.chargeOf := Iff.rfl

theorem chargeOf_le {s : State} (hs : s.chargeLaw) (n : NodeId) : s.chargeOf n ≤ s.budgetInUse := by
  rw [((chargeLaw_iff s).1 hs).2, nodeSum_split (f := s.chargeOf) (g := fun m => if m = n then 0 else s.chargeOf m) n
    (fun m hm => by simp [hm]) (by simp)]
  exact Nat.le_add_right _ _

/-- Which nodes hold a charge, and the budget in use, from `s` to `t`: no charge is new. -/
structure State.Charged (s t : State) : Prop where
  law : t.chargeLaw
  budget : t.budgetInUse ≤ s.budgetInUse
  states : ∀ n, (t.nodeState n).charged = true → (s.nodeState n).charged = true

/-- The nodes of `rel` give up their charges and the states that hold one; the others keep both. -/
theorem charged_of_released {s t : State} (hs : s.chargeLaw) (rel : NodeId → Bool)
    (hrel : ∀ m, rel m = true → (t.node m).charge = none ∧ (t.nodeState m).charged = false)
    (hkept : ∀ m, rel m = false → (t.node m).charge = (s.node m).charge ∧ (t.nodeState m).charged = (s.nodeState m).charged)
    (hb : t.budgetInUse = s.budgetInUse - nodeSum fun m => if rel m then s.chargeOf m else 0) : s.Charged t := by
  have hsum : nodeSum s.chargeOf = (nodeSum fun m => if rel m then s.chargeOf m else 0) + nodeSum t.chargeOf := by
    rw [nodeSum_add]
    refine nodeSum_congr fun m => ?_
    cases hm : rel m
    · simp [State.chargeOf, (hkept m hm).1]
    · simp [State.chargeOf, (hrel m hm).1]
  obtain ⟨hfits, hbudget⟩ := (chargeLaw_iff s).1 hs
  refine ⟨(chargeLaw_iff t).2 ⟨fun m => ?_, by omega⟩, by omega, fun m h => ?_⟩
  · unfold NodeLive.chargeFits
    rw [← nodeState_eq]
    cases hm : rel m
    · obtain ⟨hc, hst⟩ := hkept m hm
      rw [hc, hst]
      exact hfits m
    · obtain ⟨hc, hst⟩ := hrel m hm
      rw [hc, hst]
      rfl
  · cases hm : rel m
    · rwa [← (hkept m hm).2]
    · rw [(hrel m hm).2] at h
      cases h

theorem State.NodesKept.charged {s t : State} (h : s.NodesKept t) (hs : s.chargeLaw) : s.Charged t := by
  refine charged_of_released hs (fun _ => false) nofun (fun m _ => ⟨h.charge m, ?_⟩) (by rw [h.budget]; simp [nodeSum])
  rcases h.state m with e | ⟨e, e'⟩
  · rw [e]
  · rw [e, e']; rfl

theorem shed_charged {s : State} {n : NodeId} (h : s.nodeState n ≠ .failed) (hs : s.chargeLaw) : s.Charged (s.shed n) := by
  have hcases := shed_node_cases h
  refine charged_of_released hs (fun m => m == n || s.shedTakes n m) (fun m hm => ?_) (fun m hm => ?_) ?_
  · rw [nodeState_eq (s.shed n)]
    rcases hcases m with ⟨-, e⟩ | ⟨-, -, e⟩ | ⟨hne, ht, -⟩
    · rw [e]; exact ⟨rfl, rfl⟩
    · rw [e]; exact ⟨droppedRecord_charge s m, droppedRecord_not_charged s m⟩
    · simp [hne, ht] at hm
  · rw [nodeState_eq (s.shed n)]
    rcases hcases m with ⟨rfl, -⟩ | ⟨-, ht, -⟩ | ⟨-, -, e⟩
    · simp at hm
    · simp [ht] at hm
    · rw [e]; exact ⟨rfl, rfl⟩
  · rw [(shed_shedNodes h).2.2.1, sum_map_allNodes]
    refine congrArg (s.budgetInUse - ·) (nodeSum_congr fun m => ?_)
    by_cases hm : m = n
    · simp [hm, State.chargeOf]
    · cases s.shedTakes n m <;> simp [hm, State.chargeOf]

theorem budgetInUse_of_none {s : State} (hs : s.chargeLaw) (hnone : ∀ n, (s.nodeState n).charged = false) :
    s.budgetInUse = 0 := by
  obtain ⟨hfits, hbudget⟩ := (chargeLaw_iff s).1 hs
  rw [hbudget, nodeSum_congr (g := fun _ => 0) fun n => by simp [State.chargeOf, charge_of_not_charged (hfits n) (hnone n)]]
  simp [nodeSum]

/-- No node holds a charge in SETTLED, so a COMMIT releases none. -/
theorem carried_charged {s t : State} (h : s.carried t) (hs : s.chargeLaw)
    (hnone : ∀ n, (s.nodeState n).charged = false) : s.Charged t := by
  obtain ⟨hfits, hbudget⟩ := (chargeLaw_iff s).1 hs
  have hcharge : ∀ n, (s.node n).charge = none := fun n => charge_of_not_charged (hfits n) (hnone n)
  have hzero := budgetInUse_of_none hs hnone
  refine charged_of_released hs (fun _ => false) nofun (fun m _ => ?_) ?_
  · rw [nodeState_eq t, hcharge m, hnone m]
    rcases carried_node_cases h m with ⟨-, e⟩ | ⟨-, -, e⟩ | ⟨-, -, e⟩ <;> rw [e]
    · exact ⟨droppedRecord_charge _ m, droppedRecord_not_charged _ m⟩
    · exact ⟨rfl, rfl⟩
    · rw [adopted_charge, hcharge m, ← nodeState_eq, adopted_nodeState, hnone m]
      exact ⟨rfl, rfl⟩
  · rw [h.2.2.2.1, hzero]
    simp

theorem State.Moved.chargeLaw {s t : State} {n : NodeId} (h : s.Moved t n) (hs : s.chargeLaw) : t.chargeLaw := by
  obtain ⟨hfits, hbudget⟩ := (chargeLaw_iff s).1 hs
  have hmoved : t.budgetInUse + s.chargeOf n = s.budgetInUse + t.chargeOf n := h.budget (hfits n) (chargeOf_le hs n)
  have hs' := nodeSum_split (f := s.chargeOf) (g := fun m => if m = n then 0 else s.chargeOf m) n
    (fun m hm => by simp [hm]) (by simp)
  have ht' := nodeSum_split (f := t.chargeOf) (g := fun m => if m = n then 0 else s.chargeOf m) n
    (fun m hm => by simp [hm, State.chargeOf, h.others m hm]) (by simp)
  refine (chargeLaw_iff t).2 ⟨fun m => ?_, by omega⟩
  by_cases hm : m = n
  · exact hm ▸ h.charge (hfits n)
  · rw [h.others m hm]
    exact hfits m

/-- The budget holds, and the nodes that rise are used, in a transition. -/
theorem budgetLaw_of_charged {s t : State} (hs : s.budgetLaw) (h : s.Charged t) (ha : t.active = s.active)
    (hp : s.risesGoOn t) : t.budgetLaw := by
  obtain ⟨hle, hrise⟩ := hs
  refine ⟨by rw [ha]; exact h.budget.trans hle, fun n hc => ?_⟩
  obtain ⟨hused, hset, hhalt⟩ := hrise n (h.states n hc)
  rw [State.record, ha]
  exact ⟨hused, hp n hused (h.states n hc) hset hhalt⟩

theorem sameButNodes_risesGoOn {s t : State} (h : s.sameButNodes t) : s.risesGoOn t :=
  risesGoOn_of_phase (by rw [sameButNodes_plat h])

theorem State.Moved.budgetLaw {s t : State} {n : NodeId} (h : s.Moved t n) (same : s.sameButNodes t) (hs : s.budgetLaw) :
    t.budgetLaw := by
  obtain ⟨hle, hrise⟩ := hs
  have hactive := sameButNodes_active same
  unfold State.budgetLaw State.record
  rw [hactive, sameButNodes_plat same]
  refine ⟨h.fits.elim (fun hf => hf.trans hle) id, fun m hc => ?_⟩
  by_cases hm : m = n
  · subst hm
    rcases h.charges hc with hc | hrises
    · exact hrise m hc
    · exact hrises
  · rw [nodeState_eq, h.others m hm] at hc
    exact hrise m hc

theorem budgetLaw_of_down {t : State} (hb : t.budgetInUse = 0) (hn : ∀ n, (t.nodeState n).charged = false) : t.budgetLaw :=
  ⟨by rw [hb]; exact Nat.zero_le _, fun n h => by rw [hn n] at h; cases h⟩

theorem chargeLaw_of_down {t : State} (hb : t.budgetInUse = 0) (hc : ∀ n, (t.node n).charge = none)
    (hn : ∀ n, (t.nodeState n).charged = false) : t.chargeLaw := by
  refine (chargeLaw_iff t).2 ⟨fun n => ?_, ?_⟩
  · rw [NodeLive.chargeFits, hc, ← nodeState_eq, hn]; rfl
  · rw [hb, nodeSum_congr (g := fun _ => 0) fun n => by simp [State.chargeOf, hc n]]
    simp [nodeSum]

theorem not_charged_of_down {st : NodeState} (h : st = .off ∨ st = .failed) : st.charged = false := by
  rcases h with e | e <;> rw [e] <;> rfl

/-- The ready queue, the charges and the budget together. -/
def State.budgetLaws (s : State) : Prop := s.readyLaw ∧ s.chargeLaw ∧ s.budgetLaw

theorem Event.budgetLaws {s t : State} (h : Event s t) (hs : s.budgetLaws) : t.budgetLaws := by
  refine ⟨h.readyLaw hs.1, ?_⟩
  obtain ⟨hready, hcharge, hbudget⟩ := hs
  rcases h.nodes_cases with ⟨hn, same⟩ | ⟨hp, hc⟩ | ⟨hk, ha, hp⟩
  · have hactive := sameButNodes_active same
    have hphase := sameButNodes_risesGoOn same
    rcases hn.moved hready with ⟨n, hm⟩ | ⟨n, hne, rfl⟩ | ⟨hdown, hb, -⟩ | hk
    · exact ⟨hm.chargeLaw hcharge, hm.budgetLaw same hbudget⟩
    · have hshed := shed_charged hne hcharge
      exact ⟨hshed.law, budgetLaw_of_charged hbudget hshed hactive hphase⟩
    · have hnot := fun n => not_charged_of_down (hdown n).1
      exact ⟨chargeLaw_of_down hb (fun n => (hdown n).2.1) hnot, budgetLaw_of_down hb hnot⟩
    · have hkept := hk.charged hcharge
      exact ⟨hkept.law, budgetLaw_of_charged hbudget hkept hactive hphase⟩
  · have hnone : ∀ n, (s.nodeState n).charged = false := fun n =>
      Bool.eq_false_iff.2 fun h => (hbudget.2 n h).2.1 hp
    have hcarried := carried_charged hc hcharge hnone
    have hzero := budgetInUse_of_none hcharge hnone
    refine ⟨hcarried.law, budgetLaw_of_down (Nat.le_zero.1 (hzero ▸ hcarried.budget)) fun n => Bool.eq_false_iff.2 fun h => ?_⟩
    exact absurd (hcarried.states n h) (by rw [hnone n]; nofun)
  · have hkept := hk.charged hcharge
    exact ⟨hkept.law, budgetLaw_of_charged hbudget hkept ha hp⟩

theorem budgetLaws_of_down {t : State} (hr : t.ready = []) (hb : t.budgetInUse = 0) (hc : ∀ n, (t.node n).charge = none)
    (hn : ∀ n, t.nodeState n = .off ∨ t.nodeState n = .failed) : t.budgetLaws :=
  ⟨readyLaw_of_down hn hr, chargeLaw_of_down hb hc fun n => not_charged_of_down (hn n),
    budgetLaw_of_down hb fun n => not_charged_of_down (hn n)⟩

theorem Act.budgetLaws {s t : State} (h : Act s t) (hs : s.budgetLaws) : t.budgetLaws := by
  refine h.keeps_sequencing (P := State.budgetLaws) (fun _ _ => Event.budgetLaws) (fun s => ?_) (fun s t _ heq _ => ?_)
    (fun s t _ heq hs => ?_) hs
  · exact budgetLaws_of_down rfl rfl (fun n => by rw [startBlocks_node]; rfl) fun n => .inl (startBlocks_nodeState _ n)
  · obtain ⟨hnode, hr, hb, -, -⟩ := stopped_nodes heq
    exact budgetLaws_of_down hr hb (fun n => by rw [hnode]; rfl) (stopped_nodeState heq)
  · have hlaw : t.sequencing.budgetLaws = s.sequencing.budgetLaws := congrArg State.budgetLaws heq
    have hs' : s.sequencing.budgetLaws := hs
    rw [← hlaw] at hs'
    exact hs'

/-- Settles O54: by the events and acts; a COMMIT finds no charge, being accepted in SETTLED alone. -/
theorem everyStepKeepsTheBudget : Obligations.EveryStepKeepsTheBudget := by
  intro s t hready hcharge hbudget _ h
  obtain ⟨-, hlaws⟩ := step_keeps (fun _ _ => Act.budgetLaws) (fun _ _ h => h) h ⟨hready, hcharge, hbudget⟩
  exact hlaws

/-! ### Timers -/

theorem timerLaw_iff (s : State) : s.timerLaw ↔ (s.power = .running → ∀ n, (s.node n).timersFit) ∧
    ∀ n, isGate n = true → s.nodeState n ≠ .draining := Iff.rfl

theorem resample_timers (l : NodeLive) (was is : Bool) (h : l.timersFit) : (l.resample was is).timersFit := by
  unfold NodeLive.resample
  split
  · exact h
  · exact h

theorem State.NodesKept.timers_fit {s t : State} (h : s.NodesKept t) {n : NodeId} (hs : (s.node n).timersFit) :
    (t.node n).timersFit := by
  obtain ⟨hrise, hhold, hfall⟩ := h.timers n
  unfold NodeLive.timersFit at hs ⊢
  rw [hrise, hhold, hfall, ← nodeState_eq]
  rw [← nodeState_eq] at hs
  rcases h.state n with e | ⟨e, e'⟩
  · rwa [e]
  · rw [e] at hs
    rw [e']
    exact hs

theorem NodesStep.timers {s t : State} (h : NodesStep s t) (hr : s.readyLaw) (n : NodeId)
    (hdrain : isGate n = true → s.nodeState n ≠ .draining) :
    ((s.node n).timersFit → (t.node n).timersFit) ∧ (isGate n = true → t.nodeState n ≠ .draining) := by
  rcases h.moved hr with ⟨m, hm⟩ | ⟨m, hne, rfl⟩ | ⟨hdown, -, -⟩ | hk
  · by_cases hnm : n = m
    · subst hnm
      exact ⟨hm.timers, hm.drains⟩
    · rw [nodeState_eq t, hm.others n hnm]
      exact ⟨id, hdrain⟩
  · rw [nodeState_eq (s.shed m)]
    rcases shed_node_cases hne n with ⟨-, e⟩ | ⟨-, -, e⟩ | ⟨-, -, e⟩ <;> rw [e]
    · exact ⟨fun _ => ⟨rfl, rfl, rfl⟩, fun _ => nofun⟩
    · exact ⟨fun _ => droppedRecord_timersFit s n, fun hg => droppedRecord_gate_not_draining s hg⟩
    · exact ⟨id, hdrain⟩
  · obtain ⟨hst, -, hrise, hhold, hfall⟩ := hdown n
    refine ⟨fun _ => ?_, fun _ => by rcases hst with e | e <;> rw [e] <;> nofun⟩
    unfold NodeLive.timersFit
    rw [hrise, hhold, hfall, ← nodeState_eq]
    rcases hst with e | e <;> rw [e] <;> exact ⟨rfl, rfl, rfl⟩
  · refine ⟨hk.timers_fit, fun hg => ?_⟩
    rcases hk.state n with e | ⟨-, e⟩ <;> rw [e]
    · exact hdrain hg
    · nofun

theorem carried_timers {s t : State} (h : s.carried t) (n : NodeId) (hdrain : isGate n = true → s.nodeState n ≠ .draining) :
    ((s.node n).timersFit → (t.node n).timersFit) ∧ (isGate n = true → t.nodeState n ≠ .draining) := by
  rw [nodeState_eq t]
  rcases carried_node_cases h n with ⟨-, e⟩ | ⟨-, -, e⟩ | ⟨-, -, e⟩ <;> rw [e]
  · exact ⟨fun _ => droppedRecord_timersFit _ n, fun hg => droppedRecord_gate_not_draining _ hg⟩
  · exact ⟨fun _ => ⟨rfl, rfl, rfl⟩, fun _ => nofun⟩
  · rw [← nodeState_eq, adopted_nodeState, adopted_node]
    exact ⟨resample_timers _ _ _, hdrain⟩

theorem Event.timerLaw {s t : State} (h : Event s t) (hr : s.readyLaw) (hs : s.timerLaw) : t.timerLaw := by
  obtain ⟨htimers, hdrain⟩ := (timerLaw_iff s).1 hs
  have hnode : ∀ n, ((s.node n).timersFit → (t.node n).timersFit) ∧ (isGate n = true → t.nodeState n ≠ .draining) := fun n => by
    rcases h.nodes_cases with ⟨hn, -⟩ | ⟨-, hc⟩ | ⟨hk, -, -⟩
    · exact hn.timers hr n (hdrain n)
    · exact carried_timers hc n (hdrain n)
    · exact (NodesStep.look t hk).timers hr n (hdrain n)
  exact (timerLaw_iff t).2 ⟨fun hp n => (hnode n).1 (htimers (standing_power h.standing_eq ▸ hp) n), fun n => (hnode n).2⟩

/-! ### Prerequisites of energized nodes -/

/-- A prerequisite that turns off is held up by no used node, so none stands on it. -/
theorem State.Moved.energizedLaw {s t : State} {n : NodeId} (h : s.Moved t n) (ha : t.active = s.active)
    (hs : s.energizedLaw) : t.energizedLaw := by
  intro m hu hen q hq
  rw [State.record, ha] at hu hq
  have hother : ∀ m, m ≠ n → t.nodeState m = s.nodeState m := fun m hm => by rw [nodeState_eq, h.others m hm]; rfl
  have hon : s.nodeState q = .on := by
    by_cases hm : m = n
    · subst hm
      rcases h.rises hen with hen' | hall
      · exact hs m hu hen' q hq
      · exact hall q hq
    · exact hs m hu (by rwa [← hother m hm]) q hq
  by_cases hqn : q = n
  · subst hqn
    by_contra hoff
    have hfree := h.falls hon hoff
    have hstands : (s.nodeState m).energized = true := by
      by_cases hm : m = q
      · rw [hm, hon]; rfl
      · rwa [← hother m hm]
    rw [(heldUp_iff s q).2 ⟨m, hu, hq, .inl hstands⟩] at hfree
    cases hfree
  · rw [hother q hqn, hon]

theorem State.NodesKept.energizedLaw {s t : State} (h : s.NodesKept t) (ha : t.active = s.active) (hs : s.energizedLaw) :
    t.energizedLaw := by
  intro m hu hen q hq
  rw [State.record, ha] at hu hq
  have hen' : (s.nodeState m).energized = true := by
    rcases h.state m with e | ⟨-, e⟩
    · rwa [← e]
    · rw [e] at hen; cases hen
  have hon := hs m hu hen' q hq
  rcases h.state q with e | ⟨e, -⟩
  · rw [e, hon]
  · rw [e] at hon; cases hon

/-- SHED takes down every energized node that stands on a node it takes from ON. -/
theorem shed_energizedLaw {s : State} {n : NodeId} (h : s.nodeState n ≠ .failed) (hs : s.energizedLaw) :
    (s.shed n).energizedLaw := by
  intro m hu hen q hq
  have hactive := sameButNodes_active (shed_sameButNodes s n)
  rw [State.record, hactive] at hu hq
  rw [nodeState_eq] at hen ⊢
  rcases shed_node_cases h m with ⟨-, e⟩ | ⟨-, -, e⟩ | ⟨hmn, hnot, e⟩ <;> rw [e] at hen
  · cases hen
  · rw [droppedRecord_not_energized] at hen; cases hen
  · have hon := hs m hu hen q hq
    have hlists : s.active.lists q m := ⟨hu, hq⟩
    have hfar : ∀ p, (p = n ∨ Relation.TransGen s.active.lists n p) → s.active.lists p m → False := fun p hp hpm => by
      have htrans : Relation.TransGen s.active.lists n m := by
        rcases hp with rfl | hp
        · exact .single hpm
        · exact hp.tail hpm
      have hmem := (mem_transitiveDependents s.active n m).2 htrans
      simp [State.shedTakes, hmn, hmem, nodeState_eq, hen] at hnot
    rcases shed_node_cases h q with ⟨rfl, -⟩ | ⟨-, ht, -⟩ | ⟨-, -, e'⟩
    · exact absurd hlists (hfar q (.inl rfl))
    · simp only [State.shedTakes, Bool.and_eq_true, List.contains_iff_mem] at ht
      exact absurd hlists (hfar q (.inr ((mem_transitiveDependents s.active n q).1 ht.1.2)))
    · rw [e']
      exact hon

/-- A COMMIT takes down every energized node without its new prerequisites, and what stands on it. -/
theorem carried_energizedLaw {s t : State} (h : s.carried t) : t.energizedLaw := by
  intro m hu hen q hq
  rw [State.record, h.2.1] at hu hq
  rw [nodeState_eq] at hen ⊢
  rcases carried_node_cases h m with ⟨-, e⟩ | ⟨-, -, e⟩ | ⟨hnot, -, e⟩ <;> rw [e] at hen
  · rw [droppedRecord_not_energized] at hen; cases hen
  · cases hen
  · rw [← nodeState_eq, adopted_nodeState] at hen
    have hlists : s.staged.lists q m := ⟨hu, hq⟩
    simp only [State.adoptDrops, hen, Bool.true_and, List.contains_eq_mem, decide_eq_false_iff_not] at hnot
    rw [mem_closeDependents] at hnot
    have hon : s.nodeState q = .on := by
      by_contra hoff
      refine hnot ⟨m, List.mem_filter.2 ⟨mem_allNodes m, ?_⟩, .inl rfl⟩
      simp only [hen, Bool.true_and, List.any_eq_true, bne_iff_ne]
      exact ⟨q, hq, hoff⟩
    rcases carried_node_cases h q with ⟨hd, -⟩ | ⟨-, hc, -⟩ | ⟨-, -, e'⟩
    · simp only [State.adoptDrops, Bool.and_eq_true, List.contains_iff_mem] at hd
      obtain ⟨g, hg, hgq⟩ := (mem_closeDependents s.staged _ q).1 hd.2
      refine absurd ⟨g, hg, .inr ?_⟩ hnot
      rcases hgq with rfl | hgq
      · exact .single hlists
      · exact hgq.tail hlists
    · rw [(adoptClears_not_energized hc).1] at hon
      cases hon
    · rw [e', ← nodeState_eq, adopted_nodeState]
      exact hon

theorem energizedLaw_of_down {t : State} (h : ∀ n, t.nodeState n = .off ∨ t.nodeState n = .failed) : t.energizedLaw :=
  fun n _ hen => by rw [energized_of_down (h n)] at hen; cases hen

theorem Event.energizedLaw {s t : State} (h : Event s t) (hr : s.readyLaw) (hs : s.energizedLaw) : t.energizedLaw := by
  rcases h.nodes_cases with ⟨hn, same⟩ | ⟨-, hc⟩ | ⟨hk, ha, -⟩
  · rcases hn.moved hr with ⟨n, hm⟩ | ⟨n, hne, rfl⟩ | ⟨hdown, -, -⟩ | hk
    · exact hm.energizedLaw (sameButNodes_active same) hs
    · exact shed_energizedLaw hne hs
    · exact energizedLaw_of_down fun n => (hdown n).1
    · exact hk.energizedLaw (sameButNodes_active same) hs
  · exact carried_energizedLaw hc
  · exact hk.energizedLaw ha hs

/-- The ready queue, the timers and the prerequisites together. -/
def State.standsOn (s : State) : Prop := s.readyLaw ∧ s.timerLaw ∧ s.energizedLaw

theorem Act.standsOn {s t : State} (h : Act s t) (hs : s.standsOn) : t.standsOn := by
  refine h.keeps_sequencing (P := State.standsOn)
    (fun _ _ h hs => ⟨h.readyLaw hs.1, h.timerLaw hs.1 hs.2.1, h.energizedLaw hs.1 hs.2.2⟩) (fun s => ?_)
    (fun s t hp heq _ => ?_) (fun s t hp heq hs => ?_) hs
  · have hdown := fun n => startBlocks_nodeState s.loadImage.checkRetained n
    refine ⟨readyLaw_of_down (fun n => .inl (hdown n)) rfl, (timerLaw_iff _).2 ⟨fun _ n => ?_, fun n _ => ?_⟩,
      energizedLaw_of_down fun n => .inl (hdown n)⟩
    · rw [startBlocks_node]; exact ⟨rfl, rfl, rfl⟩
    · rw [hdown]; nofun
  · have hdown := stopped_nodeState heq
    refine ⟨readyLaw_of_down hdown (stopped_nodes heq).2.1, (timerLaw_iff _).2 ⟨fun hr => absurd hr hp, fun n _ => ?_⟩,
      energizedLaw_of_down hdown⟩
    rcases hdown n with e | e <;> rw [e] <;> nofun
  · have hlaw : (t.sequencing.readyLaw ∧ t.sequencing.energizedLaw) = (s.sequencing.readyLaw ∧ s.sequencing.energizedLaw) :=
      congrArg (fun u : State => u.readyLaw ∧ u.energizedLaw) heq
    have hs' : s.sequencing.readyLaw ∧ s.sequencing.energizedLaw := ⟨hs.1, hs.2.2⟩
    rw [← hlaw] at hs'
    have hnodes : t.nodes = s.nodes := (congrArg State.nodes heq :)
    have hnode : ∀ n, t.node n = s.node n := fun n => by rw [State.node, hnodes]; rfl
    obtain ⟨htimers, hdrain⟩ := (timerLaw_iff s).1 hs.2.1
    refine ⟨hs'.1, (timerLaw_iff t).2 ⟨fun hr n => ?_, fun n hg => ?_⟩, hs'.2⟩
    · rw [hnode]
      exact htimers (hp.elim (fun e => e ▸ hr) (absurd hr)) n
    · rw [nodeState_eq, hnode]
      exact hdrain n hg

/-- Settles O55: by the events and acts. -/
theorem everyStepKeepsPrerequisitesOn : Obligations.EveryStepKeepsPrerequisitesOn := by
  intro s t hready htimer henergized h
  obtain ⟨-, ht, he⟩ := step_keeps (fun _ _ => Act.standsOn) (fun _ _ h => h) h ⟨hready, htimer, henergized⟩
  exact ⟨he, ht⟩

end Sys2Proof.Machine

/-! # The logs and the monitor

The numbers of the fault log, the size of the progress log, the deadline of the monitor, and where a boot is watched, through every event and every act. -/

namespace Sys2Proof.Machine

/-! ### The fault log -/

theorem storeFault_law {s : State} (hs : s.faults.law) (r : FaultRecord) : (s.storeFault r).faults.law := by
  obtain ⟨hlen, hseq, hover⟩ := hs
  unfold State.storeFault
  split
  · next hroom =>
    refine ⟨by simp only [List.length_append, List.length_singleton]; omega, fun i hi => ?_, fun _ => by simp⟩
    simp only [List.length_append, List.length_singleton] at hi ⊢
    by_cases hlast : i < s.faults.log.length
    · rw [List.getElem_append_left hlast, hseq i hlast]
      have hsplit : s.faults.log.length + 1 - i = (s.faults.log.length - i) + 1 := by omega
      rw [hsplit, BitVec.ofNat_add]
      bv_omega
    · have hi' : i = s.faults.log.length := by omega
      subst hi'
      rw [List.getElem_append_right (Nat.le_refl _)]
      simp
  · next hfull =>
    refine ⟨hlen, hseq, fun _ h => ?_⟩
    change s.faults.log = [] at h
    rw [h] at hfull
    exact hfull (by decide)

theorem faultAcked_law {u : FaultUnit} (hs : u.law) {f : FaultRecord} {rest : List FaultRecord} (h : u.log = f :: rest) :
    ({ u with log := rest, overflow := u.overflow && !rest.isEmpty } : FaultUnit).law := by
  obtain ⟨hlen, hseq, -⟩ := hs
  simp only [h, List.length_cons] at hlen hseq
  refine ⟨by change rest.length ≤ 16; omega, fun i hi => ?_, fun ho he => ?_⟩
  · have hnext := hseq (i + 1) (by simpa using hi)
    simp only [List.getElem_cons_succ] at hnext
    rw [hnext]
    simp
  · change rest = [] at he
    simp [he] at ho

theorem Event.faults_cases {s t : State} (h : Event s t) : t.faults = s.faults ∨ (∃ r, t = s.storeFault r) ∨
    ∃ f rest, s.faults.log = f :: rest ∧
      t.faults = { s.faults with log := rest, overflow := s.faults.overflow && !rest.isEmpty } := by
  cases h
  case unseen ht => exact .inl (congrArg State.faults ht :)
  case nodes _ same => exact .inl (sameButNodes_log same).1
  case arrives r _ => exact .inl (congrArg State.faults (arrive_besideRequests s r) :)
  case decided k b _ => exact .inl (congrArg State.faults (decided_besideRequests s k (s.stageDecision b)) :)
  case takeHead r rest _ _ => exact .inl (congrArg State.faults (takenInSettled_besideRequests { s with queue := rest } r) :)
  case trip L hL => exact .inl (congrArg State.faults (startTrip_besideRequests (s := s) hL) :)
  case halt => exact .inl (congrArg State.faults (haltedFrom_besideRequests s) :)
  case logs r => exact .inr (.inl ⟨r, rfl⟩)
  case faultAcked f rest h => exact .inr (.inr ⟨f, rest, h, rfl⟩)
  case adopted _ _ hc => exact .inl (congrArg State.faults hc.1 :)
  all_goals exact .inl rfl

theorem Event.faultLaw {s t : State} (h : Event s t) (hs : s.faults.law) : t.faults.law := by
  rcases h.faults_cases with e | ⟨r, rfl⟩ | ⟨f, rest, hf, e⟩
  · rwa [e]
  · exact storeFault_law hs r
  · rw [e]
    exact faultAcked_law hs hf

/-! ### The progress log -/

/-- The progress log grows by posts alone. -/
theorem Event.log_cases {s t : State} (h : Event s t) :
    t.monitor.log = s.monitor.log ∨ ∃ code now, t.monitor = s.monitor.logPost code now := by
  have hrecords : ∀ {u : State}, u.besideRequests = s.besideRequests → u.monitor.log = s.monitor.log := fun h =>
    (congrArg (fun u => u.monitor.log) h :)
  cases h
  case unseen ht => exact .inl (congrArg (fun u => u.monitor.log) ht :)
  case nodes _ same => exact .inl (by rw [← same])
  case arrives r _ => exact .inl (hrecords (arrive_besideRequests s r))
  case decided k b _ =>
    have hlog : (s.decided k (s.stageDecision b)).monitor.log = (s.monitor.afterDecision k (s.stageDecision b)).log :=
      (congrArg (fun u => u.monitor.log) (decided_besideRequests s k (s.stageDecision b)) :)
    refine .inl (hlog.trans ?_)
    cases s.stageDecision b <;> rfl
  case settle L _ _ _ =>
    refine .inl ?_
    unfold State.settledAt State.monitorAtRun
    dsimp only
    split
    · split
      · rfl
      · split <;> rfl
    · rfl
  case handForced r _ _ _ =>
    exact .inl (hrecords (overtakenBy_besideRequests { s with queue := s.queue.filter fun q => q.source != r.source } r))
  case takeHead r rest _ _ => exact .inl (hrecords (takenInSettled_besideRequests { s with queue := rest } r))
  case trip L hL => exact .inl (hrecords (startTrip_besideRequests (s := s) hL))
  case halt => exact .inl (hrecords (haltedFrom_besideRequests s))
  case logs r => exact .inl (congrArg (fun u => u.monitor.log) (storeFault_frame s r) :)
  case posted code now => exact .inr ⟨code, now, rfl⟩
  case reached k j _ =>
    refine .inl ?_
    unfold State.monitorReached
    split <;> rfl
  case monitorSet m _ _ hlog => exact .inl hlog
  case monitorHeld m hm => exact .inl (by rw [hm])
  case adopted _ _ hc =>
    rw [hc.2.2.2.2.2.1]
    split <;> exact .inl rfl
  all_goals exact .inl rfl

theorem Event.logLaw {s t : State} (h : Event s t) (hs : s.monitor.logLaw) : t.monitor.logLaw := by
  rcases h.log_cases with e | ⟨code, now, e⟩
  · unfold Monitor.logLaw
    rwa [e]
  · rw [e]
    exact logPost_length s.monitor code now hs

/-! ### The monitor's state and deadline -/

/-- The deadline runs exactly in ARMED, and the stage due is a stage of the plan (R134, R139). -/
def Monitor.fits (m : Monitor) (p : Plan) : Prop :=
  (m.deadline.isSome ↔ ∃ k, m.state = .armed k) ∧ ∀ k, m.state.due = some k → k < p.active.length

theorem monitorLaw_iff (s : State) : s.monitorLaw ↔ (s.power = .running → s.monitor.fits s.active.plan) := Iff.rfl

theorem fits_of_not_watching {m : Monitor} {p : Plan} (hd : m.deadline = none) (hst : m.state.due = none) : m.fits p := by
  refine ⟨?_, fun k hk => by rw [hst] at hk; cases hk⟩
  rw [hd]
  refine iff_of_false nofun fun ⟨k, hk⟩ => ?_
  rw [hk] at hst
  cases hst

theorem afterLoss_due (m : Monitor) (rs : List Request) : (m.afterLoss rs).state.due = m.state.due := by
  unfold Monitor.afterLoss
  split
  · next h => rw [h.1]; rfl
  · rfl

theorem afterLeaving_due (m : Monitor) : m.afterLeaving.state.due = none := by
  unfold Monitor.afterLeaving
  split
  · rfl
  · rfl
  · rfl
  all_goals next h => rw [h]; rfl

theorem afterLoss_fits {m : Monitor} {p : Plan} (h : m.fits p) (rs : List Request) : (m.afterLoss rs).fits p := by
  unfold Monitor.afterLoss
  split
  · next hm =>
    obtain ⟨hdeadline, -⟩ := h
    rw [hm.1] at hdeadline
    refine fits_of_not_watching ?_ rfl
    by_contra hne
    obtain ⟨k, hk⟩ := hdeadline.1 (Option.isSome_iff_ne_none.2 hne)
    cases hk
  · exact h

theorem afterLeaving_fits {m : Monitor} {p : Plan} (h : m.fits p) : m.afterLeaving.fits p := by
  unfold Monitor.afterLeaving
  split
  case h_4 | h_5 | h_6 => exact h
  all_goals exact fits_of_not_watching rfl rfl

theorem startedFor_fits {s : State} {p : Plan} (h : s.monitor.fits p) (r : Request) : (s.startedFor r).monitor.fits p := by
  unfold State.startedFor
  dsimp only
  split
  · exact afterLeaving_fits h
  · exact h

theorem arrive_fits {s : State} {p : Plan} (h : s.monitor.fits p) (r : Request) : (s.arrive r).monitor.fits p := by
  have harr := arrived s r
  generalize s.arrive r = t at harr ⊢
  cases harr
  case replaces => exact afterLoss_fits h _
  case waits => exact afterLoss_fits h _
  case overtakes => exact startedFor_fits (afterLoss_fits h _) r
  all_goals exact h

/-- The decision on a missed stage is to note it, to hold off, or to recover (R144). -/
theorem stageDecision_cases (s : State) (b : Byte) : s.stageDecision b = .noted ∨ s.stageDecision b = .holdOff ∨
    s.stageDecision b = .warm ∨ s.stageDecision b = .cold ∨ s.stageDecision b = .alternate := by
  unfold State.stageDecision
  split_ifs <;> simp

theorem afterDecision_fits {s : State} {p : Plan} {k : Nat} (h : s.monitor.fits p) (hk : s.monitor.watched = some k) (b : Byte) :
    (s.monitor.afterDecision k (s.stageDecision b)).fits p := by
  have harmed := ((watched_eq_some_iff _ k).1 hk).1
  have hlt : k < p.active.length := h.2 k (by rw [harmed]; rfl)
  rcases stageDecision_cases s b with e | e | e | e | e <;> rw [e]
  · exact ⟨iff_of_false nofun nofun, fun i hi => by cases hi; exact hlt⟩
  all_goals exact fits_of_not_watching rfl rfl

theorem decided_fits {s : State} {p : Plan} {k : Nat} (h : s.monitor.fits p) (hk : s.monitor.watched = some k) (b : Byte) :
    (s.decided k (s.stageDecision b)).monitor.fits p := by
  have hafter := afterDecision_fits h hk b
  unfold State.decided
  dsimp only
  split
  · exact arrive_fits (s := { s with monitor := _ }) hafter _
  · exact hafter

theorem monitorReached_fits (s : State) (k j : Nat) : (s.monitorReached k j).fits s.active.plan := by
  unfold State.monitorReached
  split
  · next g hg =>
    refine ⟨iff_of_true rfl ⟨j + 1, rfl⟩, fun i hi => ?_⟩
    cases hi
    exact (List.getElem?_eq_some_iff.1 hg).1
  · exact fits_of_not_watching rfl rfl

theorem monitorAtRun_fits {s : State} (h : s.monitor.fits s.active.plan) : s.monitorAtRun.fits s.active.plan := by
  unfold State.monitorAtRun
  split
  · exact h
  · next g rest hplan =>
    split
    · refine ⟨iff_of_true rfl ⟨0, rfl⟩, fun i hi => ?_⟩
      cases hi
      rw [hplan]
      exact Nat.succ_pos _
    · exact h

theorem startTrip_monitor {s : State} {L : Level} (h : L ≠ .run) :
    (s.startTrip L).monitor = (s.monitor.afterLoss s.pendingRequests).afterLeaving := by
  rw [startTrip_eq h]

theorem haltedFrom_monitor (s : State) : s.haltedFrom.monitor = s.monitor.afterLoss s.queue := by
  unfold State.haltedFrom
  rw [flushQueue_eq]
  rfl

theorem carried_fits {s t : State} (h : s.carried t) (hs : s.monitor.fits s.active.plan) : t.monitor.fits t.active.plan := by
  rw [h.2.1, h.2.2.2.2.2.1]
  split
  · exact fits_of_not_watching rfl rfl
  · next hsame =>
    refine ⟨hs.1, fun k hk => ?_⟩
    have hplan : s.active.plan.active = s.staged.plan.active := by
      by_contra hne
      exact hsame ⟨.inr hne, by rw [hk]; nofun⟩
    rw [← hplan]
    exact hs.2 k hk

theorem Event.monitor_fits {s t : State} (h : Event s t) (hs : s.monitor.fits s.active.plan) : t.monitor.fits t.active.plan := by
  have hsame : ∀ {t : State}, t.monitor = s.monitor → t.active = s.active → t.monitor.fits t.active.plan := fun hm ha => by
    rwa [hm, ha]
  have hactive : t.active = s.active → t.monitor.fits s.active.plan → t.monitor.fits t.active.plan := fun ha hf => by rwa [ha]
  cases h
  case unseen ht => exact hsame (congrArg State.monitor ht :) (congrArg State.active ht :)
  case nodes _ same => exact hsame (by rw [← same]) (sameButNodes_active same)
  case arrives r _ => exact hactive (congrArg State.active (arrive_besideRequests s r) :) (arrive_fits hs r)
  case decided k b hk =>
    exact hactive (congrArg State.active (decided_besideRequests s k (s.stageDecision b)) :) (decided_fits hs hk b)
  case settle L _ _ _ =>
    refine hactive rfl ?_
    unfold State.settledAt
    dsimp only
    split
    · exact monitorAtRun_fits hs
    · exact hs
  case handForced r _ _ _ =>
    exact startedFor_fits (s := { s with queue := _, completions := _, monitor := _ }) (afterLoss_fits hs _) r
  case takeHead r rest _ _ =>
    refine hactive (congrArg State.active (takenInSettled_besideRequests { s with queue := rest } r) :) ?_
    unfold State.takenInSettled
    split
    · exact hs
    · exact startedFor_fits (s := { s with queue := rest }) hs r
  case trip L hL =>
    refine hactive (congrArg State.active (startTrip_besideRequests (s := s) hL) :) ?_
    rw [startTrip_monitor hL]
    exact afterLeaving_fits (afterLoss_fits hs _)
  case halt =>
    refine hactive (congrArg State.active (haltedFrom_besideRequests s) :) ?_
    rw [haltedFrom_monitor]
    exact afterLoss_fits hs _
  case logs r => exact hsame (congrArg State.monitor (storeFault_frame s r) :) (congrArg State.active (storeFault_frame s r) :)
  case reached k j _ => exact monitorReached_fits s k j
  case monitorSet m hst hd _ =>
    refine fits_of_not_watching hd ?_
    rcases hst with e | e <;> exact congrArg MonitorState.due e
  case monitorHeld m hm =>
    change m.fits s.active.plan
    rw [hm]
    exact hs
  case ticked =>
    refine ⟨?_, hs.2⟩
    have hsome : s.tickTimers.monitor.deadline.isSome = s.monitor.deadline.isSome := Option.isSome_map
    rw [hsome]
    exact hs.1
  case adopted _ _ hc => exact carried_fits hc hs
  all_goals exact hs

/-- The logs and the monitor together. -/
def State.logLaws (s : State) : Prop := s.faults.law ∧ s.monitor.logLaw ∧ s.monitorLaw

theorem Event.logLaws {s t : State} (h : Event s t) (hs : s.logLaws) : t.logLaws := by
  obtain ⟨hfaults, hlog, hmonitor⟩ := hs
  exact ⟨h.faultLaw hfaults, h.logLaw hlog, fun hp => h.monitor_fits (hmonitor (standing_power h.standing_eq ▸ hp))⟩

theorem monitorAtStart_due (p : Policy) : (Policy.monitorAtStart p).due = none := by
  unfold Policy.monitorAtStart
  split <;> rfl

theorem startBlocks_logLaws (s : State) : s.startBlocks.logLaws :=
  ⟨⟨Nat.zero_le 16, fun i hi => absurd hi (Nat.not_lt_zero i), nofun⟩, Nat.zero_le 32,
    fun _ => fits_of_not_watching rfl (monitorAtStart_due _)⟩

theorem Act.logLaws {s t : State} (h : Act s t) (hs : s.logLaws) : t.logLaws := by
  refine h.keeps_sequencing (P := State.logLaws) (fun _ _ => Event.logLaws) (fun s => startBlocks_logLaws _)
    (fun s t hp heq hs => ?_) (fun s t hp heq hs => ?_) hs
  · have hseq := heq.trans (stopEverything_sequencing s)
    have hfaults : t.faults = s.faults := (congrArg State.faults hseq :)
    have hlog : t.monitor.log = s.monitor.log := (congrArg (fun u => u.monitor.log) hseq :)
    refine ⟨by rw [hfaults]; exact hs.1, ?_, fun hr => absurd hr hp⟩
    unfold Monitor.logLaw
    rw [hlog]
    exact hs.2.1
  · have hfaults : t.faults = s.faults := (congrArg State.faults heq :)
    have hmonitor : t.monitor = s.monitor := (congrArg State.monitor heq :)
    have hactive : t.active = s.active := (congrArg State.active heq :)
    refine ⟨by rw [hfaults]; exact hs.1, by rw [hmonitor]; exact hs.2.1, fun hr => ?_⟩
    rw [hmonitor, hactive]
    exact hs.2.2 (hp.elim (fun e => e ▸ hr) (absurd hr))

/-! ### Where a boot is watched -/

/-- SETTLED at RUN, or on the way there with no via, no recycle and no trip (R139). -/
def Platform.atRun (p : Platform) : Prop :=
  p.settled = .run ∧ p.trip = false ∧
    (p.phase = .settled ∨ (p.phase.inFlight = true ∧ p.target = some .run ∧ p.via = none ∧ p.recycle = none))

theorem due_eq_some_iff (st : MonitorState) (k : Nat) : st.due = some k ↔ st = .armed k ∨ st = .stalled k := by
  cases st <;> simp [MonitorState.due]

theorem watchLaw_iff (s : State) : s.watchLaw ↔
    (s.monitor.state.due ≠ none → s.plat.atRun) ∧ ∀ r ∈ s.queue, r.source ≠ .watch := by
  unfold State.watchLaw
  refine and_congr_left fun _ => ⟨fun h hd => ?_, fun h k hk => h ?_⟩
  · obtain ⟨k, hk⟩ := Option.ne_none_iff_exists'.1 hd
    exact h k ((due_eq_some_iff _ k).1 hk)
  · rw [(due_eq_some_iff _ k).2 hk]
    nofun

/-- No leg runs while a boot is watched. -/
theorem noLeg_of_atRun {p : Platform} (hp : p.law) (h : p.atRun) : p.recycle = none ∧ p.via = none ∧ p.phase ≠ .halted := by
  obtain ⟨-, -, hset | ⟨hflight, -, hvia, hleg⟩⟩ := h
  · obtain ⟨-, hrecycle, hvia, -⟩ := hp
    rw [hset] at hrecycle hvia
    have hleg : p.recycle.isSome = false := hrecycle
    refine ⟨by simpa using hleg, ?_, by rw [hset]; nofun⟩
    by_contra hne
    rcases hvia (Option.isSome_iff_ne_none.2 hne) with e | e <;> cases e
  · exact ⟨hleg, hvia, fun e => by rw [e] at hflight; cases hflight⟩

/-- A start at RUN by another source with no via and no recycle goes on to RUN; any other ends the watch (R147). -/
theorem startedFor_watch {s : State} {r : Request} (hr : r.source ≠ .watch) (h : s.monitor.state.due ≠ none → s.plat.atRun) :
    (s.startedFor r).monitor.state.due ≠ none → (s.startedFor r).plat.atRun := by
  unfold State.startedFor
  dsimp only
  split
  · rw [afterLeaving_due]
    exact fun hne => absurd rfl hne
  · next hstays =>
    intro hd
    simp only [not_or, not_and, not_not, Bool.not_eq_true, Option.isSome_eq_false_iff, Option.isNone_iff_eq_none] at hstays
    obtain ⟨hrun, hopts⟩ := hstays
    obtain ⟨hvia, hrec⟩ := hopts hr
    obtain ⟨hsettled, -, -⟩ := h hd
    refine ⟨hsettled, rfl, .inr ?_⟩
    simp [hvia, hrec, hrun, hsettled, Phase.inFlight]

theorem overtakenBy_watch {s : State} {r : Request} (hr : r.source ≠ .watch) (hs : s.watchLaw) : (s.overtakenBy r).watchLaw := by
  obtain ⟨hat, hqueue⟩ := (watchLaw_iff s).1 hs
  refine (watchLaw_iff _).2 ⟨startedFor_watch hr fun hd => hat ?_, fun q hq => hqueue q (List.mem_filter.1 hq).1⟩
  rwa [afterLoss_due] at hd

theorem arrive_watch {s : State} {r : Request} (hr : r.source ≠ .watch) (hs : s.watchLaw) : (s.arrive r).watchLaw := by
  obtain ⟨hat, hqueue⟩ := (watchLaw_iff s).1 hs
  have harr := arrived s r
  generalize s.arrive r = t at harr ⊢
  cases harr
  case joins =>
    refine (watchLaw_iff _).2 ⟨hat, fun q hq => ?_⟩
    rcases List.mem_append.1 hq with hq | hq
    · exact hqueue q hq
    · rwa [List.mem_singleton.1 hq]
  case replaces =>
    refine (watchLaw_iff _).2 ⟨fun hd => hat (by rwa [afterLoss_due] at hd), fun q hq => ?_⟩
    obtain ⟨e, he, rfl⟩ := List.mem_map.1 hq
    split
    · exact hr
    · exact hqueue e he
  case waits =>
    refine (watchLaw_iff _).2 ⟨fun hd => hat (by rwa [afterLoss_due] at hd), fun q hq => ?_⟩
    rcases List.mem_append.1 hq with hq | hq
    · exact hqueue q (List.mem_filter.1 hq).1
    · rwa [List.mem_singleton.1 hq]
  case overtakes => exact overtakenBy_watch hr hs
  all_goals exact hs

/-- While the monitor recovers or is disabled, a FORCED request outside a trip is taken at once. -/
theorem arrive_forced_watch {s : State} {r : Request} (hk : r.kind = .forced) (ht : s.plat.trip = false)
    (hd : s.monitor.state.due = none) (hqueue : ∀ q ∈ s.queue, q.source ≠ .watch) : (s.arrive r).watchLaw := by
  have harr := arrived s r
  generalize s.arrive r = t at harr ⊢
  cases harr
  case discarded => exact (watchLaw_iff s).2 ⟨fun h => absurd hd h, hqueue⟩
  case joins hk' _ => rw [hk] at hk'; cases hk'
  case merges hk' _ _ => rw [hk] at hk'; cases hk'
  case replaces hk' _ _ => rw [hk] at hk'; cases hk'
  case waits ht' => rw [ht] at ht'; cases ht'
  case overtakes =>
    refine (watchLaw_iff _).2 ⟨fun h => absurd ?_ h, fun q hq => hqueue q (List.mem_filter.1 hq).1⟩
    unfold State.overtakenBy State.startedFor
    dsimp only
    split
    · exact afterLeaving_due _
    · rw [afterLoss_due, hd]

theorem recoveryRequest_kind {a : FaultAction} {r : Request} (h : recoveryRequest a = some r) : r.kind = .forced := by
  cases a <;> cases h <;> rfl

theorem decided_watch {s : State} {k : Nat} (hs : s.watchLaw) (hk : s.monitor.watched = some k) (b : Byte) :
    (s.decided k (s.stageDecision b)).watchLaw := by
  obtain ⟨hat, hqueue⟩ := (watchLaw_iff s).1 hs
  have harmed := ((watched_eq_some_iff _ k).1 hk).1
  have hrun := hat (by rw [harmed]; nofun)
  have hafter : (recoveryRequest (s.stageDecision b)).isSome = true →
      (s.monitor.afterDecision k (s.stageDecision b)).state.due = none := fun hr => by
    rcases stageDecision_cases s b with e | e | e | e | e <;> rw [e] at hr ⊢ <;> first | rfl | cases hr
  unfold State.decided
  dsimp only
  split
  · next r hr =>
    exact arrive_forced_watch (s := { s with monitor := _ }) (recoveryRequest_kind hr) hrun.2.1 (hafter (by rw [hr]; rfl)) hqueue
  · exact (watchLaw_iff _).2 ⟨fun _ => hrun, hqueue⟩

theorem watchLaw_of_not_watching {t : State} (hd : t.monitor.state.due = none) (hq : ∀ r ∈ t.queue, r.source ≠ .watch) :
    t.watchLaw :=
  (watchLaw_iff t).2 ⟨fun h => absurd hd h, hq⟩

theorem settledAt_watch {s : State} {L : Level} (hs : s.watchLaw) (hdue : s.settleDue) (hL : s.plat.target = some L) :
    (s.settledAt L).watchLaw := by
  obtain ⟨hat, hqueue⟩ := (watchLaw_iff s).1 hs
  refine (watchLaw_iff _).2 ⟨fun hd => ?_, hqueue⟩
  have hrun : L = .run := by
    by_contra hne
    have hmonitor : (s.settledAt L).monitor = s.monitor := if_neg fun h => hne h.2
    rw [hmonitor] at hd
    obtain ⟨-, -, hset | ⟨-, htarget, -⟩⟩ := hat hd
    · have hflight := hdue.1
      rw [hset] at hflight
      cases hflight
    · rw [hL] at htarget
      exact hne (Option.some.inj htarget)
  exact ⟨hrun, rfl, .inl rfl⟩

theorem carried_watch {s t : State} (h : s.carried t) (hs : s.watchLaw) : t.watchLaw := by
  obtain ⟨hat, hqueue⟩ := (watchLaw_iff s).1 hs
  have hplat : t.plat = s.plat := (congrArg State.plat h.1 :)
  have hq : t.queue = s.queue := (congrArg State.queue h.1 :)
  refine (watchLaw_iff t).2 ⟨fun hd => ?_, by rw [hq]; exact hqueue⟩
  rw [hplat]
  refine hat fun hnone => hd ?_
  rw [h.2.2.2.2.2.1]
  split
  · rfl
  · exact hnone

theorem Event.watchLaw {s t : State} (h : Event s t) (hp : s.plat.law) (hs : s.watchLaw) : t.watchLaw := by
  obtain ⟨hat, hqueue⟩ := (watchLaw_iff s).1 hs
  have hsame : ∀ {t : State}, t.monitor.state = s.monitor.state → t.plat = s.plat → t.queue = s.queue → t.watchLaw :=
    fun hm hpl hq => (watchLaw_iff _).2 ⟨by rw [hm, hpl]; exact hat, by rw [hq]; exact hqueue⟩
  have hnot : s.plat.recycle ≠ none ∨ s.plat.via ≠ none ∨ s.plat.phase = .halted → s.monitor.state.due = none := fun h => by
    by_contra hd
    obtain ⟨hleg, hvia, hhalt⟩ := noLeg_of_atRun hp (hat hd)
    exact h.elim (absurd hleg) fun h => h.elim (absurd hvia) hhalt
  cases h
  case unseen ht => exact hsame (congrArg (fun u => u.monitor.state) ht :) (congrArg State.plat ht :) (congrArg State.queue ht :)
  case nodes _ same => exact hsame (by rw [← same]) (sameButNodes_plat same) (by rw [← same])
  case arrives r hr => exact arrive_watch hr.1 hs
  case decided k b hk => exact decided_watch hs hk b
  case startHold hd => exact watchLaw_of_not_watching (hnot (.inl (by rw [hd.1]; nofun))) hqueue
  case viaSettle v _ hv => exact watchLaw_of_not_watching (hnot (.inr (.inl (by rw [hv]; nofun)))) hqueue
  case settle L hdue _ hL => exact settledAt_watch hs hdue hL
  case handForced r hr ht _ =>
    have hrest : State.watchLaw { s with queue := s.queue.filter fun q => q.source != r.source } :=
      (watchLaw_iff _).2 ⟨hat, fun q hq => hqueue q (List.mem_filter.1 hq).1⟩
    exact overtakenBy_watch (hqueue r (List.mem_of_find?_eq_some hr)) hrest
  case repair =>
    refine (watchLaw_iff _).2 ⟨fun hd => ?_, hqueue⟩
    obtain ⟨hrun, -, -⟩ := hat hd
    exact ⟨hrun, rfl, .inr ⟨rfl, congrArg some hrun, rfl, rfl⟩⟩
  case takeHead r rest _ hq =>
    have hr : r.source ≠ .watch := hqueue r (by rw [hq]; exact List.mem_cons_self)
    have hrest : ∀ q ∈ rest, q.source ≠ .watch := fun q h => hqueue q (by rw [hq]; exact List.mem_cons_of_mem r h)
    unfold State.takenInSettled
    split
    · exact (watchLaw_iff _).2 ⟨hat, hrest⟩
    · exact (watchLaw_iff _).2 ⟨startedFor_watch (s := { s with queue := rest }) hr hat, hrest⟩
  case trip L hL =>
    refine watchLaw_of_not_watching ?_ ?_
    · rw [startTrip_monitor hL]
      exact afterLeaving_due _
    · rw [startTrip_eq hL]
      exact fun r hr => absurd hr List.not_mem_nil
  case halt ht _ _ =>
    refine watchLaw_of_not_watching ?_ fun r hr => absurd hr List.not_mem_nil
    rw [haltedFrom_monitor, afterLoss_due]
    by_contra hd
    rw [(hat hd).2.1] at ht
    cases ht
  case holdOver hr => exact watchLaw_of_not_watching (hnot (.inl (by rw [hr]; nofun))) hqueue
  case unhalt hh => exact watchLaw_of_not_watching (hnot (.inr (.inr hh))) hqueue
  case logs r =>
    have hframe := storeFault_frame s r
    exact hsame (congrArg (fun u => u.monitor.state) hframe :) (congrArg State.plat hframe :) (congrArg State.queue hframe :)
  case reached k j hk => exact (watchLaw_iff _).2 ⟨fun _ => hat (by rw [hk]; nofun), hqueue⟩
  case monitorSet m hst _ _ =>
    refine watchLaw_of_not_watching ?_ hqueue
    rcases hst with e | e <;> exact congrArg MonitorState.due e
  case monitorHeld m hm => exact hsame (by change m.state = _; rw [hm]) rfl rfl
  case cancelled => exact (watchLaw_iff _).2 ⟨hat, fun q hq => hqueue q (List.mem_filter.1 hq).1⟩
  case ticked => exact (watchLaw_iff _).2 ⟨hat, hqueue⟩
  case adopted _ _ hc => exact carried_watch hc hs
  all_goals exact hs

/-- The platform record and where a boot is watched together. -/
def State.watchLaws (s : State) : Prop := s.platformLaw ∧ s.watchLaw

theorem Act.watchLaws {s t : State} (h : Act s t) (hs : s.watchLaws) : t.watchLaws := by
  refine ⟨h.platformLaw hs.1, h.keeps_sequencing (P := fun u => u.platformLaw ∧ u.watchLaw)
    (fun _ _ h hs => ⟨h.platformLaw hs.1, h.watchLaw hs.1.1 hs.2⟩) (fun s => ?_) (fun s t _ heq hs => ?_)
    (fun s t _ heq hs => ?_) hs |>.2⟩
  · exact ⟨startBlocks_platformLaw _, watchLaw_of_not_watching (monitorAtStart_due _) fun r hr => absurd hr List.not_mem_nil⟩
  · have hseq := heq.trans (stopEverything_sequencing s)
    refine ⟨platformLaw_of_sequencing hseq (stopped_platformLaw hs.1), ?_⟩
    have hmonitor : t.monitor.state = s.monitor.state := (congrArg (fun u => u.monitor.state) hseq :)
    have hplat : t.plat = { s.plat with holdTimer := none } := (congrArg State.plat hseq :)
    have hqueue : t.queue = s.queue := (congrArg State.queue hseq :)
    obtain ⟨hat, hq⟩ := (watchLaw_iff s).1 hs.2
    refine (watchLaw_iff t).2 ⟨fun hd => ?_, by rw [hqueue]; exact hq⟩
    rw [hplat]
    exact hat (by rwa [← hmonitor])
  · refine ⟨platformLaw_of_sequencing heq hs.1, ?_⟩
    have hlaw : t.sequencing.watchLaw = s.sequencing.watchLaw := congrArg State.watchLaw heq
    have hs' : s.sequencing.watchLaw := hs.2
    rw [← hlaw] at hs'
    exact hs'

/-- Settles O58: the logs and the monitor by the events and acts, and the watch with the platform record's law. -/
theorem everyStepKeepsTheLogsAndTheMonitor : Obligations.EveryStepKeepsTheLogsAndTheMonitor := by
  refine ⟨fun s t hfaults hlog hmonitor h => step_keeps (fun _ _ => Act.logLaws) (fun _ _ h => h) h ⟨hfaults, hlog, hmonitor⟩, ?_⟩
  intro s t hs h
  obtain ⟨-, -, -, -, -, hplatform, -, -, -, -, -, hwatch, -⟩ := hs
  exact (step_keeps (fun _ _ => Act.watchLaws) (fun _ _ h => h) h ⟨hplatform, hwatch⟩).2

end Sys2Proof.Machine

/-! # Steps, reset, supplies and the short commands

The statements that say what one command writes, from the definition of the command. -/

namespace Sys2Proof.Machine

/-! ### Steps -/

/-- Settles O1: by the definition of a step. -/
theorem stepRunsTheFrontCommand : Obligations.StepRunsTheFrontCommand := by
  intro c s rest h
  rw [step, h]

theorem step_of_empty {s : State} (h : s.pending = []) : step s = .next s.tick := by
  rw [step, h]

theorem wakeLive_map (s : State) (f : WakeLive → WakeLive) (e : Fin 16) :
    ({ s with wakes := s.wakes.map f } : State).wakeLive e = f (s.wakeLive e) := by
  simp [State.wakeLive]

theorem tick_of_running {s : State} (h : s.power = .running) : s.tick = { s.tickTimers with uptime := s.uptime + 1 } := by
  rw [State.tick, h]

/-- Settles O2: by the supply phase. -/
theorem emptyQueueIsOneMillisecond : Obligations.EmptyQueueIsOneMillisecond := by
  intro s h
  rw [step_of_empty h]
  refine ⟨?_, fun hp => by rw [State.tick, hp], fun hp => ⟨_, rfl, ?_⟩⟩
  · rintro (hp | hp) <;> rw [State.tick, hp]
  · rw [tick_of_running hp]
    refine ⟨rfl, rfl, rfl, rfl, rfl, fun n => ?_, fun e => ?_, rfl⟩
    · exact node_map s NodeLive.tick n
    · exact wakeLive_map s WakeLive.tick e

/-! ### Reset -/

theorem reset_node (n : NodeId) : State.reset.node n = NodeLive.start := by
  simp [State.reset, State.node]

theorem reset_wakeLive (e : Fin 16) : State.reset.wakeLive e = WakeLive.start := by
  simp [State.reset, State.wakeLive]

theorem reset_nodeState (n : NodeId) : State.reset.nodeState n = .off := by
  rw [nodeState_eq, reset_node]
  rfl

/-- Settles O7: field by field. -/
theorem resetIsTheStartEventOfANewBoard : Obligations.ResetIsTheStartEventOfANewBoard := by
  unfold Obligations.ResetIsTheStartEventOfANewBoard
  refine ⟨rfl, rfl, rfl, rfl, fun n => ?_, rfl, rfl, rfl, rfl, rfl, rfl, rfl, rfl, rfl, rfl, rfl, rfl, rfl, ?_, rfl, rfl, rfl,
    rfl, rfl, rfl, rfl, rfl, fun e => ?_, rfl, rfl, rfl, rfl, rfl, rfl, ?_, rfl, rfl, rfl, rfl, rfl⟩
  · rw [nodeState_eq, reset_node]
    exact ⟨rfl, rfl, rfl, rfl, rfl, rfl, rfl, rfl, rfl⟩
  · intro p
    cases p <;> rfl
  · rw [reset_wakeLive]
    exact ⟨rfl, rfl⟩
  · intro p
    cases p <;> exact ⟨rfl, rfl, rfl⟩

/-- Settles O8: every node is OFF, nothing waits or runs, and the sets are empty. -/
theorem lawsHoldAtReset : Obligations.LawsHoldAtReset := by
  have hdown : ∀ n, State.reset.nodeState n = .off ∨ State.reset.nodeState n = .failed := fun n => .inl (reset_nodeState n)
  have hcharges : State.reset.budgetLaws := budgetLaws_of_down rfl rfl (fun n => by rw [reset_node]; rfl) hdown
  refine ⟨hcharges.1, hcharges.2.1, hcharges.2.2, ⟨nofun, fun n _ => by rw [reset_nodeState]; nofun⟩,
    energizedLaw_of_down hdown, ⟨⟨rfl, rfl, nofun, nofun, nofun, nofun⟩, nofun, nofun⟩, List.nodup_nil,
    fun p => by cases p <;> exact Nat.zero_le 4, ⟨Nat.zero_le 16, fun i hi => absurd hi (Nat.not_lt_zero i), nofun⟩,
    Nat.zero_le 32, nofun, watchLaw_of_not_watching rfl fun r hr => absurd hr List.not_mem_nil,
    ⟨empty_valid, nofun, nofun, nofun⟩, ⟨nofun, nofun, nofun⟩, nofun, fun p => ?_⟩
  cases p <;> exact ⟨BitVec.zero_and, BitVec.zero_and⟩

/-! ### Levels -/

theorem levelOf_eq (r : NodeRecord) : r.levelOf = if r.level = 1 then some .standby else if r.level = 2 then some .park
    else if r.level = 3 then some .run else none := rfl

theorem memberOf_iff (r : NodeRecord) (L : Level) : r.memberOf L = true ↔
    (r.level = 1 ∧ 1 ≤ L.rank) ∨ (r.level = 2 ∧ 2 ≤ L.rank) ∨ (r.level = 3 ∧ 3 ≤ L.rank) := by
  have hstandby : Level.standby.rank = 1 := rfl
  have hpark : Level.park.rank = 2 := rfl
  have hrun : Level.run.rank = 3 := rfl
  unfold NodeRecord.memberOf
  rw [levelOf_eq]
  by_cases h1 : r.level = 1
  · simp [h1, hstandby]
  by_cases h2 : r.level = 2
  · simp [h2, hpark]
  by_cases h3 : r.level = 3
  · simp [h3, hrun]
  · rw [if_neg h1, if_neg h2, if_neg h3]
    tauto

/-- Settles O9: by the record's level. -/
theorem membershipNestsByLevel : Obligations.MembershipNestsByLevel := by
  refine ⟨memberOf_iff, fun r L M hle h => ?_, fun r => ?_⟩
  · rw [memberOf_iff] at h ⊢
    rcases h with ⟨e, h⟩ | ⟨e, h⟩ | ⟨e, h⟩
    · exact .inl ⟨e, h.trans hle⟩
    · exact .inr (.inl ⟨e, h.trans hle⟩)
    · exact .inr (.inr ⟨e, h.trans hle⟩)
  · have hdeep : Level.deep.rank = 0 := rfl
    rw [← Bool.not_eq_true, memberOf_iff]
    simp [hdeep]

/-! ### Supplies and uptime -/

/-- Settles O12: by the supply phase and the level of nRST. -/
theorem startEventLatchesStrapsAndLoads : Obligations.StartEventLatchesStrapsAndLoads := by
  intro s adr1 adr0
  refine ⟨fun hp hn => ?_, fun hp hn => ?_, fun hp => ?_, fun hp => ?_, fun hp => ?_⟩
  · simp [exec, execStandbyPowerArrival, State.standbyArrives, State.startEvent, hp, hn]
  · simp [exec, execStandbyPowerArrival, State.standbyArrives, hp, hn]
  · simp [exec, execStandbyPowerArrival, hp]
  · simp [exec, execNrstRelease, State.startEvent, hp]
  · simp [exec, execNrstRelease, hp]

/-- Settles O15: by the supply phase and the counter. -/
theorem uptimeWrapsToZero : Obligations.UptimeWrapsToZero := by
  intro s
  have hexec : exec .uptimeWrap s = .next (if s.power.started ∧ s.uptime = 0xFFFFFFFF then { s with uptime := 0 } else s) := rfl
  rw [hexec]
  refine ⟨fun hp hu => ?_, fun h => ?_⟩
  · have hstarted : s.power.started = true := by rcases hp with e | e <;> rw [e] <;> rfl
    rw [if_pos ⟨hstarted, hu⟩]
  · rw [if_neg]
    rintro ⟨hstarted, hu⟩
    rcases h with h | h | h
    · exact h hu
    · rw [h] at hstarted; cases hstarted
    · rw [h] at hstarted; cases hstarted

/-! ### Button and idle timer -/

/-- Settles O23: by the level of the pin against the debounced one. -/
theorem pbtnChangeDrivesTheDebounce : Obligations.PbtnChangeDrivesTheDebounce := by
  intro s high hp
  have hexec : exec (.pbtnChange high) s = .next (s.withPin (.pbtnChange high)).lookAtPbtn.finish :=
    congrArg Host.Outcome.next (event_of_running State.lookAtPbtn hp)
  rw [hexec]
  refine ⟨fun h => ?_, fun h hf => ?_, fun h hf => ?_⟩
  · have hdown : (!high) = s.button.pressed := by cases high <;> cases hb : s.button.pressed <;> simp_all
    simp [State.lookAtPbtn, State.withPin, hdown]
  · simp [State.lookAtPbtn, State.withPin, ← h, Option.isSome_iff_ne_none.2 hf]
  · simp [State.lookAtPbtn, State.withPin, ← h, hf]

/-- Settles O25: by the idle timer. -/
theorem idleTimerExpiryAsksForDeep : Obligations.IdleTimerExpiryAsksForDeep := by
  intro s
  refine ⟨fun h => exec_eventIf_of_not _ ?_, fun hp h => exec_eventIf_of _ ((timerDue_iff _).2 h) hp⟩
  rwa [← Bool.not_eq_true, timerDue_iff]

/-! ### Management Port commands -/

/-- A Management Port command taken: its body runs on the state with the code written. -/
theorem mgmtCommand_of_takesCommand {s : State} (code : Byte) (body : State → State) (h : s.takesCommand .mgmt) :
    s.mgmtCommand .mgmt code body = (body (s.commanded .mgmt code)).finish :=
  commandByte_of_takesCommand code _ h

/-- Settles O41: both commands set the monitor in every phase. -/
theorem monitorCommandsSetTheMonitor : Obligations.MonitorCommandsSetTheMonitor := fun _ h =>
  ⟨congrArg Host.Outcome.next (mgmtCommand_of_takesCommand 0x14 _ h),
    congrArg Host.Outcome.next (mgmtCommand_of_takesCommand 0x15 _ h)⟩

/-- Settles O42: by the argument, then the phase and level. -/
theorem setBselOnlyWhileSettledBelowRun : Obligations.SetBselOnlyWhileSettledBelowRun := by
  intro s h
  have hexec : exec (.setBsel .mgmt) s = .next (s.commanded .mgmt 0x16).setBselCommand.finish :=
    congrArg Host.Outcome.next (mgmtCommand_of_takesCommand 0x16 _ h)
  rw [hexec]
  unfold State.setBselCommand
  rw [arg_commanded]
  refine ⟨fun hv => by rw [if_pos hv]; rfl, fun hv hp => ?_, fun hv hp hL => ?_⟩
  all_goals rw [if_neg (by tauto)]
  · exact congrArg (fun u => Host.Outcome.next (State.finish u)) (if_pos hp)
  · have hnot : ¬(s.plat.phase ≠ .settled ∨ s.plat.settled = .run) := by tauto
    exact congrArg (fun u => Host.Outcome.next (State.finish u)) (if_neg hnot)

/-- Settles O43: by the argument. -/
theorem hostLockTakesOnlyZeroOrOne : Obligations.HostLockTakesOnlyZeroOrOne := by
  intro s h
  have hexec : exec (.hostLock .mgmt) s = .next (s.commanded .mgmt 0x17).hostLockCommand.finish :=
    congrArg Host.Outcome.next (mgmtCommand_of_takesCommand 0x17 _ h)
  rw [hexec]
  unfold State.hostLockCommand
  rw [arg_commanded]
  refine ⟨fun hv => by rw [if_pos hv]; rfl, fun hv => ?_, fun h0 h1 => by rw [if_neg h0, if_neg h1]; rfl⟩
  rw [if_neg (by rw [hv]; decide), if_pos hv]
  rfl

/-- Settles O44: by the definition of the command. -/
theorem clearRetainedClearsFirstFaultAndLost : Obligations.ClearRetainedClearsFirstFaultAndLost := fun _ h =>
  congrArg Host.Outcome.next (mgmtCommand_of_takesCommand 0x18 _ h)

/-! ### Codes that name no command -/

/-- A code outside the two ranges names no command. -/
theorem takeCommand_of_unknown {s : State} {p : Port} {code : Byte} (h1 : ¬(1 ≤ code.toNat ∧ code.toNat ≤ 5))
    (h2 : ¬(0x10 ≤ code.toNat ∧ code.toNat ≤ 0x18)) : s.takeCommand p code = s.reply p .invalid := by
  have hne : ∀ c : Byte, (1 ≤ c.toNat ∧ c.toNat ≤ 5) ∨ (0x10 ≤ c.toNat ∧ c.toNat ≤ 0x18) → code ≠ c := fun c hc e => by
    rw [e] at h1 h2
    omega
  unfold State.takeCommand
  iterate 14 rw [if_neg (hne _ (by decide))]

/-- Settles O45: the code names no command. -/
theorem unknownCommandIsInvalid : Obligations.UnknownCommandIsInvalid := fun _ _ code h h1 h2 =>
  congrArg Host.Outcome.next ((commandByte_of_takesCommand code _ h).trans (congrArg State.finish (takeCommand_of_unknown h1 h2)))

/-! ### Transfers -/

/-- Settles O51: by the definitions; the pointer names the one byte that a running transfer takes. -/
theorem transfersMoveTheRegisterPointer : Obligations.TransfersMoveTheRegisterPointer := by
  intro s addr sent hp
  refine ⟨congrArg Host.Outcome.next (if_pos hp), congrArg Host.Outcome.next (if_pos hp), congrArg Host.Outcome.next (if_pos hp),
    fun a => ⟨?_, ?_, fun _ h => ?_, ?_, ?_⟩⟩
  · rw [takesByte_mgmt_iff]
    simp [hp, eq_comm]
  · simp [State.takesByte]
  · rw [takesByte_mgmt_iff] at h
    exact h.2.2.symm
  · rw [takesByte_mgmt_iff]
    simp [hp]
  · simp [State.takesRead, hp]

end Sys2Proof.Machine

/-! # Command bytes, causes, masks and frames

What a byte written or read does by the port it comes through and the location it names (R172 to R181). -/

namespace Sys2Proof.Machine

/-! ### Command bytes -/

/-- Every command that is a command-byte write writes its code. -/
theorem exec_eq_commandByte {c : Instr} {p : Port} {code : Byte} (hat : c.byteAt = some (p, 0x0020))
    (hcode : c.commandCode = some code) : ∃ body, ∀ s, exec c s = .next (s.commandByte p code body) := by
  cases c <;> cases hcode <;> cases hat <;> exact ⟨_, fun s => rfl⟩

/-- Settles O47: a BUSY mailbox takes no command byte. -/
theorem busyMailboxIgnoresCommands : Obligations.BusyMailboxIgnoresCommands := by
  intro s c p code htakes hbusy hat hcode
  obtain ⟨body, hbody⟩ := exec_eq_commandByte hat hcode
  rw [hbody, State.commandByte, byteEvent_of_taken _ htakes, afterByte_eq_byteTaken]
  exact congrArg (fun u => Host.Outcome.next (State.finish u)) (if_pos hbusy)

theorem takeCommand_host_of_mgmt_code (s : State) {code : Byte} (h1 : 0x10 ≤ code.toNat) (h2 : code.toNat ≤ 0x18) :
    s.takeCommand .host code = s.reply .host .cls := by
  obtain ⟨k, hk⟩ : ∃ k, k = code.toNat := ⟨_, rfl⟩
  obtain rfl : code = BitVec.ofNat 8 k := by rw [hk]; simp
  rw [← hk] at h1 h2
  interval_cases k <;> rfl

theorem exec_mgmt_on_host {c : Instr} {code : Byte} (hat : c.byteAt = some (.host, 0x0020)) (hcode : c.commandCode = some code)
    (h1 : 0x10 ≤ code.toNat) (h2 : code.toNat ≤ 0x18) (s : State) :
    exec c s = .next (s.commandByte .host code fun u => u.reply .host .cls) := by
  cases c
  case unknownCommand q code' =>
    cases hcode
    cases hat
    exact congrArg (fun f => Host.Outcome.next (s.commandByte .host code f))
      (funext fun u => takeCommand_host_of_mgmt_code u h1 h2)
  all_goals first
    | (cases hcode; done)
    | (cases hcode; cases hat; first | rfl | exact absurd h1 (by decide))

/-- Settles O46: on the Host Port the body of such a command is the CLASS answer. -/
theorem managementCommandsOnTheHostPortGiveClass : Obligations.ManagementCommandsOnTheHostPortGiveClass := by
  intro s c code ht hat hcode h1 h2
  rw [exec_mgmt_on_host hat hcode h1 h2, commandByte_of_takesCommand _ _ ht]
  rfl

/-! ### Causes and masks -/

theorem exec_byteEvent_of_taken {s : State} {p : Port} {addr : Word} (f : State → State) (h : s.takesByte p addr = true) :
    Host.Outcome.next (s.byteEvent p addr f) = (.next (f (s.byteTaken p addr)).finish : Host.Outcome State Fault Refusal) := by
  rw [byteEvent_of_taken _ h, afterByte_eq_byteTaken]

theorem getLsbD_word_append (high low : Byte) (i : Nat) :
    BitVec.getLsbD (high ++ low : Word) i = if i < 8 then low.getLsbD i else high.getLsbD (i - 8) :=
  BitVec.getLsbD_append

theorem putByte_low_mask (m : Word) (v : Byte) : (putByte m false v &&& causeBits).truncate 8 = v ∧
    (putByte m false v &&& causeBits) >>> 8 = (m >>> 8) &&& 0x0003 := by
  constructor <;> apply BitVec.eq_of_getLsbD_eq <;> intro i hi <;>
    interval_cases i <;> simp [putByte, causeBits, getLsbD_word_append, -BitVec.getLsbD_eq_getElem]

theorem putByte_high_mask (m : Word) (v : Byte) : (putByte m true v &&& causeBits).truncate 8 = m.truncate 8 ∧
    (putByte m true v &&& causeBits) >>> 8 = (0#8 ++ v) &&& 0x0003 := by
  constructor <;> apply BitVec.eq_of_getLsbD_eq <;> intro i hi <;>
    interval_cases i <;> simp [putByte, causeBits, getLsbD_word_append, -BitVec.getLsbD_eq_getElem]

/-- Settles O48: each write by its location; the pending causes and the attention line by their definitions. -/
theorem acknowledgeAndMaskActOnTheirOwnPort : Obligations.AcknowledgeAndMaskActOnTheirOwnPort := by
  refine ⟨fun s p v => ⟨fun h => exec_byteEvent_of_taken _ h, fun h => exec_byteEvent_of_taken _ h,
    fun h => ⟨_, exec_byteEvent_of_taken _ h, putByte_low_mask _ v⟩,
    fun h => ⟨_, exec_byteEvent_of_taken _ h, putByte_high_mask _ v⟩⟩, fun s p => ⟨?_, ?_, ?_⟩⟩
  · simp only [State.pendingCauses, State.levelCauses, List.isEmpty_iff, ← BitVec.or_assoc]
    rfl
  · simp only [State.attention, Bool.and_eq_true, bne_iff_ne, ne_eq]
    rfl
  · simp only [State.attention, Bool.and_eq_true, bne_iff_ne, ne_eq, beq_iff_eq]
    rfl

/-! ### Frames -/

theorem hostLive_iff (s : State) : s.hostLive = true ↔ s.power = .running ∧
    ∀ n, s.active.policy.hostNodeOf = some n → s.nodeState n = .on := by
  unfold State.hostLive
  cases s.active.policy.hostNodeOf <;> simp

/-- Settles O52: by the frame and whether the Host Port is live. -/
theorem framesAreTakenOnlyWhileLive : Obligations.FramesAreTakenOnlyWhileLive := by
  intro s
  refine ⟨fun hf hl a => ⟨?_, ?_, fun d h0 h8 => ?_⟩, fun hf hl => ?_, fun hf hl header => ?_, fun hf header => ?_, rfl,
    hostLive_iff s, fun a => ⟨takesByte_host_iff s a, fun b h => ?_, ?_⟩, fun a n => rfl, ?_⟩
  · simp [exec, execFrameStart, frameOf, hf, hl]
  · simp [exec, execFrameStart, frameOf, hf, hl]
  · simp only [exec, execFrameStart, frameOf, hf, hl, if_true, if_neg h0, if_neg h8]
  · simp [exec, execFrameStart, frameOf, hf, hl]
  · simp [exec, execFrameStart, hf, hl]
  · simp [exec, execFrameStart, hf]
  · obtain ⟨-, hframe⟩ := (takesByte_host_iff _ b).1 h
    exact (Frame.write.inj hframe).symm
  · simp [takesRead_host_iff, readReaches_iff]
  · cases hf : s.frame <;> cases hl : s.hostLive <;> simp [State.sdoHighZ, Frame.taken, hf, hl]

end Sys2Proof.Machine

/-! # Levels, output pins, the button and CLEAR_FAULTS

What the levels and pins mean (R3, R12, R38, R53, R106), the button's events (R92 to R94), and the return of FAILED nodes (R114). -/

namespace Sys2Proof.Machine

/-! ### Levels -/

theorem governing_of_via {p : Platform} {v : Level} (h : p.phase = .rising ∨ p.phase = .falling) (hv : p.via = some v) :
    p.governing = some v := by
  rcases h with h | h <;> simp [Platform.governing, h, hv]

theorem governing_of_target {p : Platform} (h : p.phase.inFlight = true) (hv : p.via = none) : p.governing = p.target := by
  cases hp : p.phase <;> simp_all [Platform.governing, Phase.inFlight]

theorem reference_of_not_inFlight {p : Platform} (h : p.phase.inFlight = false) : p.reference = p.settled := by
  simp [Platform.reference, h]

theorem reference_of_inFlight {p : Platform} (h : p.phase.inFlight = true) {t : Level} (ht : p.target = some t) :
    p.reference = t := by
  simp [Platform.reference, h, ht]

theorem effectiveTripLevel_of_deep {s : State} (h : s.active.policy.tripLevel = 0) (n : NodeId) :
    s.effectiveTripLevel n = .deep := by
  simp [State.effectiveTripLevel, lowLevelOfByte, h]

theorem levelOf_eq_standby_iff (r : NodeRecord) : r.levelOf = some .standby ↔ r.level = 1 := by
  rw [levelOf_eq]
  split_ifs <;> simp_all

theorem degradedAt_iff (s : State) (L : Level) : s.degradedAt L = true ↔
    ∃ n, (s.record n).memberOf L = true ∧ (s.nodeState n = .failed ∨ s.nodeState n = .held) := by
  simp [State.degradedAt, mem_allNodes]

/-- Settles O10: by the phase, the trip level and the closure under listing. -/
theorem governingLevelFollowsPhase : Obligations.GoverningLevelFollowsPhase := by
  refine ⟨fun p => ⟨fun h => ⟨governing_of_settled h, reference_of_not_inFlight (by rw [h]; rfl)⟩,
    fun h => ⟨by simp [Platform.governing, h], reference_of_not_inFlight (by rw [h]; rfl)⟩, fun h v => governing_of_via h,
    governing_of_target, fun h t => reference_of_inFlight h⟩, fun s n => ⟨fun h => effectiveTripLevel_of_deep h n, ?_, ?_⟩,
    degradedAt_iff, fun c n m => ⟨mem_dependents c n m, mem_transitiveDependents c n m, mem_exclusionSet c m,
      fun from' => mem_closeDependents c from' m⟩⟩
  · intro _ hl
    exact if_pos ((levelOf_eq_standby_iff _).2 hl)
  · intro ht hl
    have hnot : (s.record n).levelOf ≠ some .standby := by
      rw [Ne, levelOf_eq_standby_iff]
      rcases hl with hl | hl <;> rw [hl] <;> decide
    rw [State.effectiveTripLevel, if_neg hnot, ht]
    rfl

/-! ### Output pins -/

theorem nodePin_eq (s : State) (n : NodeId) (energized : Bool) : s.nodePin n energized =
    match (s.record n).openDrain, (s.record n).activeHigh, energized != isGate n with
    | false, true, true => .high
    | false, true, false => .low
    | false, false, true => .low
    | false, false, false => .high
    | true, true, true => .highZ
    | true, true, false => .low
    | true, false, true => .low
    | true, false, false => .highZ := by
  unfold State.nodePin pinOf
  cases (s.record n).openDrain <;> cases (s.record n).activeHigh <;> cases (energized != isGate n) <;> rfl

/-- One of the two output levels is high impedance exactly with an open drain. -/
theorem nodePin_highZ_iff (s : State) (n : NodeId) :
    s.nodePin n false = .highZ ∨ s.nodePin n true = .highZ ↔ (s.record n).openDrain = true := by
  unfold State.nodePin pinOf
  cases (s.record n).openDrain <;> cases (s.record n).activeHigh <;> cases isGate n <;> decide

/-- Settles O11: by the supply phase, then the drive, the active level and the node. -/
theorem pinsFollowStateAndRecord : Obligations.PinsFollowStateAndRecord := by
  refine ⟨fun s n => ⟨fun h => ?_, fun h => ?_, fun h => ?_, fun h => ?_, nodePin_highZ_iff s n⟩,
    fun s => ⟨fun h => ?_, fun h h4 => ?_, fun h h4 => ?_⟩⟩
  · rw [State.outputPin, h]
    exact nodePin_eq s n _
  · rw [State.outputPin, h]
  · rw [State.outputPin, h]
  · rw [State.outputPin, h]
  · rw [State.bselPin, h]
  · cases hp : s.power <;> simp_all [State.bselPin]
  · cases hp : s.power <;> simp_all [State.bselPin]

/-! ### Button -/

theorem buttonFilterToward_iff (b : Button) (down : Bool) : b.filterToward down = true ↔ b.filter = some ⟨down, 0⟩ :=
  intervalDue_iff b.filter down

theorem takePress_eq (s : State) : s.takePress = { s with button :=
    if s.button.state = .released then
      { state := .pressed, pressed := true, filter := none, longTimer := some (1000 * s.active.policy.longPress.toNat) }
    else { s.button with pressed := true, filter := none } } := by
  unfold State.takePress
  cases h : s.button.state
  case released => simp [h, Policy.longPressMs]
  all_goals simp [h]

theorem takeRelease_of_staying {s : State}
    (h : s.button.state = .released ∨ (s.button.state = .locked ∧ s.plat.phase = .halted)) :
    s.takeRelease = { s with button := { s.button with pressed := false, filter := none } } := by
  unfold State.takeRelease
  rcases h with h | ⟨h, hp⟩ <;> simp [*]

theorem takeRelease_of_released {s : State}
    (h : s.button.state = .long ∨ (s.button.state = .locked ∧ s.plat.phase ≠ .halted)) :
    s.takeRelease = { s with button := { s.button with state := .released, pressed := false, filter := none } } := by
  unfold State.takeRelease
  rcases h with h | ⟨h, hp⟩ <;> simp [*]

theorem takeRelease_of_pressed {s : State} (h : s.button.state = .pressed) : s.takeRelease =
    State.shortPress { s with button := { state := .released, pressed := false, filter := none, longTimer := none } } := by
  unfold State.takeRelease
  simp [h]

theorem shortPress_of_run {s : State} (h : s.plat.reference = .run) : s.shortPress = s.raiseBoth .button := by
  simp [State.shortPress, h, Level.below]

theorem shortPress_of_below {s : State} (h : s.plat.reference ≠ .run) :
    s.shortPress = s.arrive (plainRequest .button .normal .run) :=
  if_pos ((below_run_iff _).2 h)

/-- Settles O24: by the debounce interval and the button's state. -/
theorem buttonEventsFollowTheButtonState : Obligations.ButtonEventsFollowTheButtonState := by
  intro s
  have hno : ∀ down : Bool, s.button.filter ≠ some ⟨down, 0⟩ → s.button.filterToward down = false := fun down h => by
    rwa [← Bool.not_eq_true, buttonFilterToward_iff]
  have hyes : ∀ down : Bool, s.button.filter = some ⟨down, 0⟩ → s.button.filterToward down = true := fun down h =>
    (buttonFilterToward_iff _ _).2 h
  refine ⟨fun h => exec_eventIf_of_not _ (hno true h), fun h => exec_eventIf_of_not _ (hno false h),
    fun h => exec_eventIf_of_not _ ?_, fun hp => ⟨fun h => ?_, fun h => ⟨fun hb => ?_, fun hb => ?_, fun hb hr => ?_, fun hb hr => ?_⟩,
      fun hb hl => ?_⟩⟩
  · rw [← Bool.not_eq_true]
    simpa [imp_iff_not_or] using h
  · exact (exec_eventIf_of _ (hyes true h) hp).trans (by rw [takePress_eq])
  · exact (exec_eventIf_of _ (hyes false h) hp).trans (by rw [takeRelease_of_staying hb])
  · exact (exec_eventIf_of _ (hyes false h) hp).trans (by rw [takeRelease_of_released hb])
  · refine (exec_eventIf_of _ (hyes false h) hp).trans ?_
    rw [takeRelease_of_pressed hb]
    exact congrArg (fun u => Host.Outcome.next (State.finish u)) (shortPress_of_run hr)
  · refine (exec_eventIf_of _ (hyes false h) hp).trans ?_
    rw [takeRelease_of_pressed hb]
    exact congrArg (fun u => Host.Outcome.next (State.finish u)) (shortPress_of_below hr)
  · exact exec_eventIf_of _ (by simp [hb, hl]) hp

/-! ### CLEAR_FAULTS -/

/-- What clearing the failures leaves of a node's live record. -/
theorem clearFailed_eq (s : State) (n : NodeId) : (s.nodes.map NodeLive.clearFailed)[n] =
    if s.nodeState n = .failed then { s.node n with state := .off, noted := false } else s.node n := by
  refine (node_map s NodeLive.clearFailed n).trans ?_
  by_cases h : (s.node n).state = .failed
  · simp [NodeLive.clearFailed, NodeLive.goTo, nodeState_eq, h]
  · simp [NodeLive.clearFailed, nodeState_eq, h]

/-- Settles O39: by the phase. -/
theorem clearFaultsReturnsFailedNodes : Obligations.ClearFaultsReturnsFailedNodes := by
  intro s h
  have hexec : exec (.clearFaults .mgmt) s = .next (s.commanded .mgmt 0x12).clearFaultsCommand.finish :=
    congrArg Host.Outcome.next (mgmtCommand_of_takesCommand 0x12 _ h)
  rw [hexec]
  refine ⟨fun hp => congrArg (fun u => Host.Outcome.next (State.finish u)) (if_pos hp),
    fun hp => ⟨s.nodes.map NodeLive.clearFailed,
      congrArg (fun u => Host.Outcome.next (State.finish u)) (if_neg (not_not.2 hp)), clearFailed_eq s⟩⟩

end Sys2Proof.Machine

/-! # STORE, CLEAR_HALT and the supplies

What STORE writes and its completion leaves (R159, R160), what ends HALTED (R111), and what stops with the supplies (R168). -/

namespace Sys2Proof.Machine

/-! ### The stored bytes -/

theorem bankValid_iff (b : Bank) : Bank.valid b = true ↔ b.mark = true ∧ b.crc = imageCrc b.generation b.image := by
  rw [Bank.valid, Bool.and_eq_true, beq_iff_eq, eq_comm (a := b.crc)]

theorem crcShift_eq_iterate (k : Nat) (crc : Word) : crcShift k crc = crcBit^[k] crc := by
  induction k generalizing crc with
  | zero => rfl
  | succ k ih => exact ih _

theorem slots_toList (r : NodeRecord) : r.slots.toList = [r.slots[0], r.slots[1], r.slots[2], r.slots[3]] := by
  refine List.ext_getElem (by simp) fun i h1 h2 => ?_
  have hi : i < 4 := by simpa using h2
  interval_cases i <;> simp

theorem bytes_eq_stored (c : ConfigSet) : c.bytes = c.stored := by
  have hnode : NodeRecord.bytes = fun r => [r.level] ++ r.slots.toList ++ [r.flags, r.weight, r.priority, r.retries] ++
      [getByte r.riseTime false, getByte r.riseTime true] ++ [getByte r.settleHold false, getByte r.settleHold true] ++
      [getByte r.fallTime false, getByte r.fallTime true] := funext fun r => by
    rw [slots_toList]
    rfl
  unfold ConfigSet.bytes ConfigSet.stored
  rw [hnode, List.append_cons]
  rfl

theorem imageCrc_eq (g : Word) (c : ConfigSet) : imageCrc g c =
    ((g.truncate 8 : Byte) :: (g >>> 8).truncate 8 :: c.stored).foldl (fun crc b => crcBit^[8] (crc ^^^ (b ++ 0#8))) 0xFFFF := by
  have hbyte : crcByte = fun crc b => crcBit^[8] (crc ^^^ (b ++ 0#8)) :=
    funext fun crc => funext fun b => crcShift_eq_iterate 8 _
  rw [imageCrc, bytes_eq_stored, hbyte]
  rfl

/-! ### The newest valid bank -/

theorem newer_iff (a b : Word) : newer a b = true ↔ 1 ≤ (a - b).toNat ∧ (a - b).toNat ≤ 32767 := by
  simp [newer, within]

theorem not_newer_of_newer {a b : Word} (h : newer a b = true) : newer b a = false := by
  rw [← Bool.not_eq_true, newer_iff]
  rw [newer_iff] at h
  bv_omega

theorem newestValid_of_both {s : State} (h0 : Bank.valid s.bank0 = true) (h1 : Bank.valid s.bank1 = true) :
    s.newestValid = if newer s.bank1.generation s.bank0.generation then some .bank1 else some .bank0 := by
  simp only [State.newestValid, h0, h1]

theorem newestValid_cases (s : State) :
    (Bank.valid s.bank0 = false → Bank.valid s.bank1 = false → s.newestValid = none) ∧
    (Bank.valid s.bank0 = true → Bank.valid s.bank1 = false → s.newestValid = some .bank0) ∧
    (Bank.valid s.bank0 = false → Bank.valid s.bank1 = true → s.newestValid = some .bank1) := by
  refine ⟨fun h0 h1 => ?_, fun h0 h1 => ?_, fun h0 h1 => ?_⟩ <;> simp only [State.newestValid, h0, h1]

theorem storeTarget_iff (s : State) : s.newestValid = some .bank0 ↔ s.storeTarget = .bank1 := by
  unfold State.storeTarget
  split <;> simp_all

/-! ### STORE -/

theorem outside_bank {s t : State} (h : t.outside = s.outside) (i : BankId) : t.bank i = s.bank i := by
  cases i
  exacts [(congrArg State.bank0 h :), (congrArg State.bank1 h :)]

theorem tearBank_bank_self (s : State) (i : BankId) : (s.tearBank i).bank i =
    { s.bank i with mark := false, generation := Config.tornGeneration s.freeCount } := by
  cases i <;> rfl

theorem tearBank_bank_of_ne (s : State) {i j : BankId} (h : j ≠ i) : (s.tearBank i).bank j = s.bank j := by
  cases i <;> cases j <;> first | rfl | exact absurd rfl h

/-- A STORE tears its target bank; beside it and the job, only the mailbox and the number of the next free value change. -/
theorem storeCommand_eq (s : State) : ∃ b0 b1, s.storeCommand = { s with
    bank0 := b0, bank1 := b1, freeCount := s.freeCount + 1
    storeJob := some ⟨s.storeTarget, s.storeGeneration, s.active⟩
    mailbox := s.mailbox.set .mgmt { s.mailbox.mgmt with status := .busy } } ∧
    ∀ i, s.storeCommand.bank i = (s.tearBank s.storeTarget).bank i := by
  unfold State.storeCommand
  cases s.storeTarget <;> exact ⟨_, _, rfl, fun i => by cases i <;> rfl⟩

/-- Settles O37: by the valid banks; the reaction touches neither bank, set nor mailbox. -/
theorem storeInvalidatesTheOtherBank : Obligations.StoreInvalidatesTheOtherBank := by
  refine ⟨bankValid_iff, imageCrc_eq, fun s => ?_, fun s h => ?_⟩
  · obtain ⟨hnone, hzero, hone⟩ := newestValid_cases s
    refine ⟨hnone, hzero, hone, fun h0 h1 => ⟨fun hn => ?_, fun hn => ?_, fun _ hn => ?_⟩⟩ <;> rw [newestValid_of_both h0 h1]
    · rw [not_newer_of_newer ((newer_iff _ _).2 hn)]; rfl
    · rw [(newer_iff _ _).2 hn]; rfl
    · rw [if_neg (fun k => hn ((newer_iff _ _).1 k))]
  · obtain ⟨b0, b1, hstore, hbank⟩ := storeCommand_eq (s.commanded .mgmt 0x11)
    have hout := finish_outside (s.commanded .mgmt 0x11).storeCommand
    have hbanks := fun i => (outside_bank hout i).trans (hbank i)
    rw [hstore] at hout
    refine ⟨_, s.storeTarget, congrArg Host.Outcome.next (mgmtCommand_of_takesCommand 0x11 _ h), storeTarget_iff s, ?_, ?_,
      fun j hj => ?_, ?_, ?_, ?_, ?_, ?_, ?_⟩ <;> rw [hstore] at hbanks ⊢
    · exact (congrArg State.storeJob hout :)
    · exact (congrArg Bank.mark (hbanks s.storeTarget)).trans (congrArg Bank.mark (tearBank_bank_self _ _))
    · exact (hbanks j).trans (tearBank_bank_of_ne (s.commanded .mgmt 0x11) hj)
    · exact (congrArg State.active hout :)
    · exact (congrArg State.staged hout :)
    · exact (congrArg State.imageBad hout :)
    · exact (congrArg State.loadedBank hout :)
    · exact (congrArg (fun u => u.mailbox.mgmt) hout :)
    · exact (congrArg (fun u => u.mailbox.host) hout :)

/-! ### The completion of a STORE -/

/-- The bank a STORE has written: valid with its image on a match, torn on a mismatch. -/
theorem finishStore_target (s : State) (crcMatches : Bool) (j : StoreJob) :
    (s.finishStore crcMatches j).bank j.target = if crcMatches then ⟨true, j.generation, j.image, imageCrc j.generation j.image⟩
      else { s.bank j.target with mark := false, generation := Config.tornGeneration s.freeCount } := by
  unfold State.finishStore
  cases crcMatches <;> cases j.target <;> rfl

theorem finishStore_other (s : State) (crcMatches : Bool) {j : StoreJob} {i : BankId} (h : i ≠ j.target) :
    (s.finishStore crcMatches j).bank i = s.bank i := by
  unfold State.finishStore
  cases crcMatches <;> cases hj : j.target <;> cases i <;> first | rfl | exact absurd hj.symm h

theorem finishStore_eq (s : State) (crcMatches : Bool) (j : StoreJob) : ∃ b0 b1 n, s.finishStore crcMatches j = State.reply
    { s with bank0 := b0, bank1 := b1, freeCount := n, storeJob := none, imageBad := !crcMatches && s.imageBad } .mgmt
    (if crcMatches then .ok else .storeFailed) := by
  unfold State.finishStore
  cases crcMatches <;> cases j.target <;> exact ⟨_, _, _, rfl⟩

theorem or_and_self (a b : Word) : (a ||| b) &&& b = b := by
  rw [BitVec.and_comm, BitVec.or_comm]
  ext i hi
  simp only [BitVec.getElem_and, BitVec.getElem_or]
  cases b[i] <;> rfl

/-- Of the event causes the reaction raises SETTLED alone, so MAILBOX stands as it was. -/
theorem and_mailbox_of_outside {s t : State} (h : t.outside = s.outside) :
    t.causes.mgmt &&& 0x0080 = s.causes.mgmt &&& 0x0080 := by
  have hcauses : t.causes.mgmt &&& ~~~Cause.settled.word = s.causes.mgmt &&& ~~~Cause.settled.word :=
    (congrArg (fun u => u.causes.mgmt) h :)
  have hmask : (0x0080 : Word) = ~~~Cause.settled.word &&& 0x0080 := by decide
  rw [hmask, ← BitVec.and_assoc, hcauses, BitVec.and_assoc]

/-- Settles O38: by whether the check matches. -/
theorem storeCompletionValidatesOrFails : Obligations.StoreCompletionValidatesOrFails := by
  intro s crcMatches
  refine ⟨fun h => exec_eventIf_of_not _ (by rw [h]; rfl), fun j hp h => ?_⟩
  have hexec : exec (.storeCompletion crcMatches) s = .next (s.finishStore crcMatches j).finish :=
    (exec_eventIf_of _ (by rw [h]; rfl) hp).trans (by rw [h])
  obtain ⟨b0, b1, n, hstore⟩ := finishStore_eq s crcMatches j
  have hout := finish_outside (s.finishStore crcMatches j)
  have hbanks := outside_bank hout
  have htarget := (hbanks j.target).trans (finishStore_target s crcMatches j)
  have hother := fun i hi => (hbanks i).trans (finishStore_other s crcMatches (i := i) hi)
  rw [hstore] at hexec hout htarget hother
  have hmail := (congrArg (fun u => u.mailbox.mgmt) hout :)
  have hbad := (congrArg State.imageBad hout :)
  refine ⟨_, hexec, (congrArg State.storeJob hout :), hother, (congrArg State.active hout :), (congrArg State.staged hout :),
    congrArg Mailbox.status hmail, congrArg Mailbox.detail hmail, ?_, fun hm => ?_, fun hm => ?_⟩
  · refine (and_mailbox_of_outside hout).trans ?_
    exact or_and_self (s.causes.mgmt) _
  · subst hm
    rw [htarget]
    exact ⟨(bankValid_iff _).2 ⟨rfl, rfl⟩, rfl, rfl, hbad, congrArg Mailbox.result hmail⟩
  · subst hm
    rw [htarget]
    exact ⟨rfl, hbad, congrArg Mailbox.result hmail⟩

end Sys2Proof.Machine

/-! # CLEAR_HALT, stops, posts and missed stages -/

namespace Sys2Proof.Machine

/-! ### CLEAR_HALT -/

theorem afterClearHalt_eq (b : Button) : b.afterClearHalt =
    if b.state = .locked ∧ b.pressed = false then { b with state := .released } else b := by
  simp [Button.afterClearHalt]

theorem leaveHalted_eq (s : State) : s.leaveHalted = ({ s with
    nodes := s.nodes.map NodeLive.clearFailed
    plat := { s.plat with phase := .settled, settled := .deep, degraded := false, tripped := false }
    retained := { s.retained with lastSettled := some .deep, checkGood := true }
    button := if s.button.state = .locked ∧ s.button.pressed = false then { s.button with state := .released }
      else s.button } : State).lookAtAllPg := by
  rw [← afterClearHalt_eq]
  rfl

theorem clearHaltCommand_of_halted {s : State} (h : s.plat.phase = .halted) :
    s.clearHaltCommand = s.leaveHalted.finished .mgmt .ok noDetail := by
  rw [State.clearHaltCommand, if_pos h, reply_eq_finished]

theorem clearHaltCommand_of_not_halted {s : State} (h : s.plat.phase ≠ .halted) :
    s.clearHaltCommand = s.finished .mgmt .stale noDetail := by
  rw [State.clearHaltCommand, if_neg h, reply_eq_finished]

/-- Settles O40: by the phase. -/
theorem clearHaltSettlesAtDeep : Obligations.ClearHaltSettlesAtDeep := by
  intro s h
  have hexec : exec (.clearHalt .mgmt) s = .next (s.commanded .mgmt 0x13).clearHaltCommand.finish :=
    congrArg Host.Outcome.next (mgmtCommand_of_takesCommand 0x13 _ h)
  rw [hexec]
  refine ⟨fun hp => ?_, fun hp => ⟨s.nodes.map NodeLive.clearFailed, ?_, clearFailed_eq s⟩⟩
  · rw [clearHaltCommand_of_not_halted (s := s.commanded .mgmt 0x13) hp]
    rfl
  · rw [clearHaltCommand_of_halted (s := s.commanded .mgmt 0x13) hp, leaveHalted_eq]
    rfl

/-! ### Stops -/

/-- What a cut STORE leaves of each bank: only its target may differ, and its mark is clear. -/
theorem cutStore_bank (s : State) (i : BankId) : s.cutStore.bank i = s.bank i ∨
    ∃ j, s.storeJob = some j ∧ j.target = i ∧ (s.cutStore.bank i).mark = false := by
  unfold State.cutStore
  split
  · exact .inl rfl
  · next j hj =>
    by_cases hi : i = j.target
    · subst hi
      refine .inr ⟨j, hj, rfl, ?_⟩
      exact congrArg Bank.mark (tearBank_bank_self s j.target)
    · exact .inl (tearBank_bank_of_ne s hi)

theorem cutStore_target {s : State} {j : StoreJob} (h : s.storeJob = some j) : (s.cutStore.bank j.target).mark = false := by
  unfold State.cutStore
  rw [h]
  exact congrArg Bank.mark (tearBank_bank_self s j.target)

theorem stopEverything_bank (s : State) (i : BankId) : s.stopEverything.bank i = s.deenergizeAll.cutStore.bank i := by
  cases i <;> rfl

theorem stopped_stopEverything (s : State) : s.stopped s.stopEverything := by
  have hbank : ∀ i, s.stopEverything.bank i = s.bank i ∨
      ∃ j, s.storeJob = some j ∧ j.target = i ∧ (s.stopEverything.bank i).mark = false := fun i => by
    rw [stopEverything_bank]
    exact cutStore_bank s.deenergizeAll i
  have htarget := fun j (hj : s.storeJob = some j) =>
    (congrArg Bank.mark (stopEverything_bank s j.target)).trans (cutStore_target (s := s.deenergizeAll) hj)
  obtain ⟨b0, b1, n, hcut⟩ := cutStore_eq s.deenergizeAll
  have hstop : s.stopEverything = { s.deenergizeAll with
      bank0 := b0, bank1 := b1, freeCount := n, storeJob := none
      plat := { s.plat with holdTimer := none }, idle := none, button := { s.button with filter := none, longTimer := none }
      monitor := { s.monitor with deadline := none }
      wakes := s.wakes.map fun w => { w with level := none, filter := none }
      frame := (if s.frame = .none then .none else .ignored), transfer := false } := by
    unfold State.stopEverything
    rw [hcut]
    rfl
  rw [hstop] at hbank htarget ⊢
  exact ⟨deenergizeAll_node s, rfl, rfl, rfl, rfl, rfl, rfl, wakeLive_map s _, rfl, rfl, rfl, hbank, htarget, rfl, rfl, rfl, rfl,
    rfl, rfl, rfl, rfl, rfl, rfl, rfl, rfl, rfl, rfl, rfl, rfl⟩

theorem stopEverything_inputs (s : State) : s.stopEverything.inputs = s.inputs := by
  obtain ⟨b0, b1, n, h⟩ := cutStore_eq s.deenergizeAll
  unfold State.stopEverything
  rw [h]
  rfl

/-- Settles O13: by the supply phase. -/
theorem powerLossAndResetStopEverything : Obligations.PowerLossAndResetStopEverything := by
  intro s
  refine ⟨fun vbat hp => ?_, fun hp => ?_, fun vbat hp => congrArg Host.Outcome.next (if_pos hp),
    fun hp => congrArg Host.Outcome.next (if_pos hp), fun hp => congrArg Host.Outcome.next (if_neg hp), fun hp => ?_⟩
  · refine ⟨_, congrArg Host.Outcome.next (if_neg hp), ?_⟩
    have hretained := stopEverything_retained s
    unfold State.standbyGoes
    cases vbat
    · refine ⟨stopped_stopEverything s, rfl, rfl, rfl, ?_⟩
      rw [← hretained]
      rfl
    · exact ⟨stopped_stopEverything s, rfl, rfl, rfl, hretained⟩
  · have hstarted : s.power.started = true := by rcases hp with hp | hp <;> rw [hp] <;> rfl
    exact ⟨_, congrArg Host.Outcome.next (if_pos hstarted), stopped_stopEverything _, rfl, stopEverything_stepFour _,
      stopEverything_inputs _, stopEverything_retained _⟩
  · have hstarted : s.power.started ≠ true := by rcases hp with hp | hp <;> rw [hp] <;> decide
    exact congrArg Host.Outcome.next (if_neg hstarted)

end Sys2Proof.Machine

/-! # The progress supervisor

A missed stage and a post (R113, R135, R136, R142 to R145). -/

namespace Sys2Proof.Machine

/-! ### A missed stage -/

theorem stageDecision_eq (s : State) (action : Byte) : s.stageDecision action =
    if action = 0 then .noted
    else if s.monitor.recoveryCount < s.active.policy.recoveryLimit.toNat then
      (if action = 1 then .warm else if action = 3 ∧ s.active.policy.alternateAllowed = 1 then .alternate else .cold)
    else .holdOff := by
  unfold State.stageDecision
  by_cases h : s.monitor.recoveryCount < s.active.policy.recoveryLimit.toNat
  · rw [if_neg (Nat.not_le.2 h), if_pos h]
  · rw [if_pos (Nat.not_lt.1 h), if_neg h]

/-- `s` after the record and the monitor's new state of a decision on stage `k`. -/
def State.decidedOn (s : State) (k : Nat) (action : FaultAction) : State :=
  { s.logFault .stageExpiry none (some k) action with monitor := s.monitor.afterDecision k action }

theorem missStage_eq {s : State} {k : Nat} {g : Stage} (h : s.active.plan.active[k]? = some g) : s.missStage k =
    match recoveryRequest (s.stageDecision g.action) with
    | some r => (s.decidedOn k (s.stageDecision g.action)).arrive r
    | none => s.decidedOn k (s.stageDecision g.action) := by
  unfold State.missStage State.decidedOn
  rw [h]
  dsimp only [Option.map_some, Option.getD_some]
  rw [logFault_frame] <;> rfl

theorem decidedOn_logged (s : State) (k : Nat) (action : FaultAction) :
    s.logged (s.decidedOn k action) (s.recordOf .stageExpiry none (some k) action) :=
  logged_congr (logFault_logged s .stageExpiry none (some k) action) rfl rfl

theorem decidedOn_frame (s : State) (k : Nat) (action : FaultAction) :
    { s.decidedOn k action with faults := s.faults, retained := s.retained } =
      { s with monitor := s.monitor.afterDecision k action } := by
  unfold State.decidedOn
  rw [logFault_frame]

/-- Settles O28: by the decision on the missed stage. -/
theorem deadlineExpiryDecidesTheStage : Obligations.DeadlineExpiryDecidesTheStage := by
  refine ⟨fun s h => exec_eventIf_of_not _ ?_, fun s k g hp hst hdl hg _ => ?_⟩
  · rw [Option.isSome_eq_false_iff, Option.isNone_iff_eq_none, Option.eq_none_iff_forall_ne_some]
    intro k hk
    obtain ⟨hst, hdl⟩ := (watched_eq_some_iff _ _).1 hk
    exact h.elim (fun h => h k hst) (fun h => h hdl)
  have hwatched : s.monitor.watched = some k := (watched_eq_some_iff _ _).2 ⟨hst, hdl⟩
  have hexec : exec .deadlineExpiry s = .next (s.missStage k).finish :=
    (exec_eventIf_of _ (by rw [hwatched]; rfl) hp).trans (by rw [hwatched])
  rw [hexec, missStage_eq hg]
  intro limit decision
  have hdecision : s.stageDecision g.action = decision := stageDecision_eq s g.action
  have hcases := stageDecision_cases s g.action
  rw [hdecision] at hcases ⊢
  refine ⟨s.decidedOn k decision, decidedOn_logged s k decision, (decidedOn_frame s k decision).trans ?_, ?_⟩
  · rcases hcases with h | h | h | h | h <;> rw [h] <;> rfl
  · rcases hcases with h | h | h | h | h <;> rw [h] <;> simp [recoveryRequest, watchRequest]

/-! ### Posts -/

theorem logPost_log (m : Monitor) (code : Word) (now : Dword) : (m.logPost code now).log =
    if m.log.length < 32 then m.log ++ [⟨code, now⟩] else m.log.tail ++ [⟨code, now⟩] := by
  unfold Monitor.logPost
  by_cases h : m.log.length < 32
  · rw [if_pos h]
    exact if_pos (by simpa using h)
  · rw [if_neg h]
    have hne : m.log ≠ [] := fun e => h (by simp [e])
    exact (if_neg (by simpa using h)).trans (List.tail_append_of_ne_nil hne)

theorem reached_eq_some {p : Plan} {k j : Nat} {code : Word} {g : Stage} (hkj : k ≤ j) (hg : p.active[j]? = some g)
    (hholds : g.holds code = true)
    (hbefore : ∀ i h, k ≤ i → i < j → p.active[i]? = some h → h.holds code = false) : Plan.reached p k code = some j := by
  have hj : j < p.active.length := (List.getElem?_eq_some_iff.1 hg).1
  unfold Plan.reached
  rw [List.find?_range_eq_some]
  refine ⟨by simp [hkj, hg, hholds], by simpa using hj, fun i hi => ?_⟩
  cases hget : p.active[i]? with
  | none => simp
  | some h =>
    by_cases hki : k ≤ i
    · simp [hbefore i h hki hi hget]
    · simp [hki]

theorem reached_eq_none {p : Plan} {k : Nat} {code : Word}
    (h : ∀ j g, k ≤ j → p.active[j]? = some g → g.holds code = false) : Plan.reached p k code = none := by
  unfold Plan.reached
  rw [List.find?_eq_none]
  intro j _
  cases hget : p.active[j]? with
  | none => simp
  | some g =>
    by_cases hkj : k ≤ j
    · simp [h j g hkj hget]
    · simp [hkj]

/-- `s` after a posted code is logged and counted. -/
def State.posted (s : State) (high : Byte) : State :=
  { s with monitor := s.monitor.logPost (high ++ s.monitor.holding) s.uptime }

theorem takePost_eq (s : State) (high : Byte) : s.takePost high =
    match s.monitor.state.due with
    | none => s.posted high
    | some k => match Plan.reached s.active.plan k (high ++ s.monitor.holding) with
      | some j => (s.posted high).reachStage k j
      | none => s.posted high := by
  unfold State.takePost
  rfl

theorem takePost_of_not_due {s : State} {high : Byte} (h : s.monitor.state.due = none) : s.takePost high = s.posted high := by
  rw [takePost_eq, h]

theorem takePost_of_no_stage {s : State} {high : Byte} {k : Nat} (h : s.monitor.state.due = some k)
    (hnone : Plan.reached s.active.plan k (high ++ s.monitor.holding) = none) : s.takePost high = s.posted high := by
  rw [takePost_eq, h]
  dsimp only
  rw [hnone]

theorem takePost_of_stage {s : State} {high : Byte} {k j : Nat} (h : s.monitor.state.due = some k)
    (hj : Plan.reached s.active.plan k (high ++ s.monitor.holding) = some j) :
    s.takePost high = State.raiseBoth { s with monitor := (s.posted high).monitorReached k j } .checkpoint := by
  rw [takePost_eq, h]
  dsimp only
  rw [hj]
  exact reachStage_eq (s.posted high) k j

theorem monitorReached_log (s : State) (k j : Nat) : (s.monitorReached k j).log = s.monitor.log ∧
    (s.monitorReached k j).postCount = s.monitor.postCount ∧ (s.monitorReached k j).holding = s.monitor.holding := by
  unfold State.monitorReached
  split <;> exact ⟨rfl, rfl, rfl⟩

/-- The log and the count after a post, whether or not it reaches a stage. -/
theorem takePost_log (s : State) (high : Byte) : (s.takePost high).monitor.log = (s.posted high).monitor.log ∧
    (s.takePost high).monitor.postCount = s.monitor.postCount + 1 ∧
    (s.takePost high).monitor.holding = s.monitor.holding := by
  cases hdue : s.monitor.state.due with
  | none => rw [takePost_of_not_due hdue]; exact ⟨rfl, rfl, rfl⟩
  | some k =>
    cases hreach : Plan.reached s.active.plan k (high ++ s.monitor.holding) with
    | none => rw [takePost_of_no_stage hdue hreach]; exact ⟨rfl, rfl, rfl⟩
    | some j => rw [takePost_of_stage hdue hreach]; exact monitorReached_log (s.posted high) k j

/-- A post that reaches no stage changes the log and the count alone. -/
theorem posted_eq (s : State) (high : Byte) (h : s.takePost high = s.posted high) : s.takePost high = { s with
    monitor := { s.monitor with
      log := (s.takePost high).monitor.log, postCount := (s.takePost high).monitor.postCount } } := by
  rw [h]
  rfl

/-- Settles O29: by the stage due and the stage that the code reaches. -/
theorem postsAreLoggedAndMatched : Obligations.PostsAreLoggedAndMatched := by
  intro s v
  refine ⟨fun h => exec_byteEvent_of_taken _ h, fun h => ?_⟩
  have hexec : exec (.post v) s = .next ((s.byteTaken .host 0x0101).takePost v).finish := exec_byteEvent_of_taken _ h
  have hposted := posted_eq (s.byteTaken .host 0x0101) v
  obtain ⟨hlog, hcount, hholding⟩ := takePost_log (s.byteTaken .host 0x0101) v
  have hnext : ∀ {t u : State}, t = u → (Host.Outcome.next t.finish : Host.Outcome State Fault Refusal) = .next u.finish :=
    fun h => by rw [h]
  rw [hexec]
  refine ⟨((s.byteTaken .host 0x0101).takePost v).monitor, hcount, hholding, hlog.trans (logPost_log _ _ _), fun hnone => ?_,
    fun k hk => ⟨fun hno => ?_, fun j g hkj hg hholds hbefore => ?_⟩⟩
  · refine hnext (hposted (takePost_of_not_due ?_))
    refine Option.eq_none_iff_forall_ne_some.2 fun k hk => ?_
    obtain ⟨harmed, hstalled⟩ := hnone k
    exact ((due_eq_some_iff _ _).1 hk).elim harmed hstalled
  · exact hnext (hposted (takePost_of_no_stage ((due_eq_some_iff _ _).2 hk) (reached_eq_none hno)))
  · have hstage := takePost_of_stage (s := s.byteTaken .host 0x0101) ((due_eq_some_iff _ _).2 hk)
      (reached_eq_some hkj hg hholds hbefore)
    have hmonitor : ((s.byteTaken .host 0x0101).takePost v).monitor = (State.posted (s.byteTaken .host 0x0101) v).monitorReached k j :=
      congrArg State.monitor hstage
    rw [hmonitor]
    refine ⟨?_, fun g' hg' => ?_, fun hlast => ?_, hnext hstage⟩
    · unfold State.monitorReached
      split <;> rfl
    · have hget : (State.posted (s.byteTaken .host 0x0101) v).active.plan.active[j + 1]? = some g' := hg'
      unfold State.monitorReached
      rw [hget]
      exact ⟨rfl, rfl, rfl⟩
    · have hget : (State.posted (s.byteTaken .host 0x0101) v).active.plan.active[j + 1]? = none := hlast
      unfold State.monitorReached
      rw [hget]
      exact ⟨rfl, rfl, rfl⟩

end Sys2Proof.Machine

/-! # The wake router

The wake records as one function, what the filters make of it, and the causes and the one request of the entries that act (R124 to R130). -/

namespace Sys2Proof.Machine

/-! ### All wake records at once -/

/-- `s` with these wake records. -/
def State.withWakes (s : State) (w : Fin 16 → WakeLive) : State := { s with wakes := Vector.ofFn w }

@[simp] theorem withWakes_wakeLive (s : State) (w : Fin 16 → WakeLive) (e : Fin 16) : (s.withWakes w).wakeLive e = w e := by
  simp [State.withWakes, State.wakeLive]

@[simp] theorem withWakes_withWakes (s : State) (w v : Fin 16 → WakeLive) : (s.withWakes w).withWakes v = s.withWakes v := rfl

@[simp] theorem withWakes_wakeEntry (s : State) (w : Fin 16 → WakeLive) (e : Fin 16) :
    (s.withWakes w).wakeEntry e = s.wakeEntry e := rfl

@[simp] theorem withWakes_lineLevel (s : State) (w : Fin 16 → WakeLive) (e : WakeEntry) :
    (s.withWakes w).lineLevel e = s.lineLevel e := rfl

theorem withWakes_frame (s : State) (w : Fin 16 → WakeLive) : { s.withWakes w with wakes := s.wakes } = s := by
  unfold State.withWakes
  rfl

theorem withWakes_self (s : State) : s.withWakes s.wakeLive = s := by
  have hwakes : Vector.ofFn s.wakeLive = s.wakes := Vector.ext fun i hi => by simp [State.wakeLive]
  unfold State.withWakes
  rw [hwakes]

theorem setWake_withWakes (s : State) (w : Fin 16 → WakeLive) (e : Fin 16) (l : WakeLive) :
    (s.withWakes w).setWake e l = s.withWakes (Function.update w e l) := by
  have hwakes : (Vector.ofFn w).set e.val l e.isLt = Vector.ofFn (Function.update w e l) := Vector.ext fun i hi => by
    by_cases h : e.val = i
    · subst h; simp
    · have hne : (⟨i, hi⟩ : Fin 16) ≠ e := fun k => h (congrArg Fin.val k).symm
      simp [h, hne]
  exact congrArg (fun v => { s with wakes := v }) hwakes

/-- A change at each entry of a list, each by its own record, is one change at all of them. -/
theorem foldl_withWakes {op : State → Fin 16 → State} {s : State} (h : Fin 16 → WakeLive → WakeLive)
    (hop : ∀ w e, op (s.withWakes w) e = s.withWakes (Function.update w e (h e (w e)))) {es : List (Fin 16)} (hes : es.Nodup)
    (w : Fin 16 → WakeLive) :
    es.foldl op (s.withWakes w) = s.withWakes fun f => if f ∈ es then h f (w f) else w f := by
  induction es generalizing w with
  | nil => simp
  | cons e es ih =>
    obtain ⟨he, hes⟩ := List.nodup_cons.1 hes
    rw [List.foldl_cons, hop, ih hes]
    congr 1
    funext f
    by_cases hf : f = e
    · subst hf; simp [he]
    · simp [hf]

theorem foldl_wakes {op : State → Fin 16 → State} {s : State} (h : Fin 16 → WakeLive → WakeLive)
    (hop : ∀ w e, op (s.withWakes w) e = s.withWakes (Function.update w e (h e (w e)))) {es : List (Fin 16)} (hes : es.Nodup) :
    es.foldl op s = s.withWakes fun f => if f ∈ es then h f (s.wakeLive f) else s.wakeLive f := by
  have hfold := foldl_withWakes h hop hes s.wakeLive
  rwa [withWakes_self] at hfold

theorem nodup_allEntries : allEntries.Nodup := List.nodup_finRange 16

theorem mem_filter_allEntries (p : Fin 16 → Bool) (f : Fin 16) : f ∈ allEntries.filter p ↔ p f = true := by
  simp [allEntries]

theorem nodup_filter_allEntries (p : Fin 16 → Bool) : (allEntries.filter p).Nodup := nodup_allEntries.filter p

/-! ### The highest target -/

theorem higher_eq_none_iff (a b : Option Level) : higher a b = none ↔ a = none ∧ b = none := by
  cases a <;> cases b <;> simp [higher]
  split <;> simp

theorem higher_eq_some {a b : Option Level} {R : Level} (h : higher a b = some R) :
    (a = some R ∨ b = some R) ∧ (∀ U, a = some U → U.rank ≤ R.rank) ∧ ∀ U, b = some U → U.rank ≤ R.rank := by
  cases a with
  | none => exact ⟨.inr h, nofun, fun U hU => by rw [show b = some R from h] at hU; cases hU; exact le_refl _⟩
  | some x =>
    cases b with
    | none => exact ⟨.inl h, fun U hU => by rw [show some x = some R from h] at hU; cases hU; exact le_refl _, nofun⟩
    | some y =>
      replace h : (if x.below y then some y else some x) = some R := h
      split at h
      · next hlt =>
        cases h
        exact ⟨.inr rfl, fun U hU => by cases hU; exact Nat.le_of_lt ((rank_lt_iff_below _ _).1 hlt),
          fun U hU => by cases hU; exact le_refl _⟩
      · next hge =>
        cases h
        exact ⟨.inl rfl, fun U hU => by cases hU; exact le_refl _,
          fun U hU => by cases hU; exact Nat.not_lt.1 fun hlt => hge ((rank_lt_iff_below _ _).2 hlt)⟩

/-- The highest target of the entries, if any has one (R128). -/
def highest (target : Fin 16 → Option Level) (es : List (Fin 16)) : Option Level :=
  es.foldl (fun t e => higher t (target e)) none

theorem foldl_higher_eq_none {target : Fin 16 → Option Level} {es : List (Fin 16)} {t : Option Level}
    (h : es.foldl (fun t e => higher t (target e)) t = none) : t = none ∧ ∀ e ∈ es, target e = none := by
  induction es generalizing t with
  | nil => exact ⟨h, by simp⟩
  | cons e es ih =>
    obtain ⟨hhead, htail⟩ := ih h
    obtain ⟨ht, he⟩ := (higher_eq_none_iff _ _).1 hhead
    exact ⟨ht, List.forall_mem_cons.2 ⟨he, htail⟩⟩

theorem foldl_higher_eq_some {target : Fin 16 → Option Level} {es : List (Fin 16)} {t : Option Level} {R : Level}
    (h : es.foldl (fun t e => higher t (target e)) t = some R) : (t = some R ∨ ∃ e ∈ es, target e = some R) ∧
      (∀ U, t = some U → U.rank ≤ R.rank) ∧ ∀ e ∈ es, ∀ U, target e = some U → U.rank ≤ R.rank := by
  induction es generalizing t with
  | nil => exact ⟨.inl h, fun U hU => by rw [show t = some R from h] at hU; cases hU; exact le_refl _, by simp⟩
  | cons e es ih =>
    obtain ⟨hfrom, hstart, hrest⟩ := ih h
    have hbound : ∀ U, t = some U ∨ target e = some U → U.rank ≤ R.rank := fun U hU => by
      cases hhigh : higher t (target e) with
      | none =>
        obtain ⟨ht, he⟩ := (higher_eq_none_iff _ _).1 hhigh
        rcases hU with hU | hU
        · rw [ht] at hU; cases hU
        · rw [he] at hU; cases hU
      | some S =>
        obtain ⟨-, hl, hr⟩ := higher_eq_some hhigh
        exact (hU.elim (hl U) (hr U)).trans (hstart S hhigh)
    refine ⟨?_, fun U hU => hbound U (.inl hU), List.forall_mem_cons.2 ⟨fun U hU => hbound U (.inr hU), hrest⟩⟩
    rcases hfrom with hfrom | ⟨f, hf, hfR⟩
    · exact (higher_eq_some hfrom).1.imp id fun he => ⟨e, List.mem_cons_self, he⟩
    · exact .inr ⟨f, List.mem_cons_of_mem _ hf, hfR⟩

theorem highest_eq_none {target : Fin 16 → Option Level} {es : List (Fin 16)} (h : ∀ e ∈ es, target e = none) :
    highest target es = none := by
  rw [Option.eq_none_iff_forall_ne_some]
  intro R hR
  rcases (foldl_higher_eq_some hR).1 with hnone | ⟨e, he, heR⟩
  · cases hnone
  · rw [h e he] at heR; cases heR

theorem rank_injective {a b : Level} (h : a.rank = b.rank) : a = b := by
  cases a <;> cases b <;> first | rfl | cases h

theorem highest_eq_some {target : Fin 16 → Option Level} {es : List (Fin 16)} {e : Fin 16} {T : Level} (he : e ∈ es)
    (heT : target e = some T) (hmax : ∀ g U, g ∈ es → target g = some U → U.rank ≤ T.rank) : highest target es = some T := by
  cases hhigh : highest target es with
  | none => exact absurd ((foldl_higher_eq_none hhigh).2 e he) (by rw [heT]; simp)
  | some R =>
    obtain ⟨hfrom, -, hbound⟩ := foldl_higher_eq_some hhigh
    have hR : R.rank ≤ T.rank := by
      rcases hfrom with hnone | ⟨g, hg, hgR⟩
      · cases hnone
      · exact hmax g R hg hgR
    rw [rank_injective (Nat.le_antisymm hR (hbound e he T heT))]

/-! ### The entries that act -/

theorem notifyWake_eq (s : State) (acting : List (Fin 16)) : s.notifyWake acting = { s with causes :=
    ⟨if acting.any fun e => (s.wakeEntry e).notifiesHost then s.causes.host ||| 0x0010 else s.causes.host,
      if acting.any fun e => (s.wakeEntry e).notifiesMgmt then s.causes.mgmt ||| 0x0010 else s.causes.mgmt⟩ } := by
  unfold State.notifyWake
  cases hh : acting.any fun e => (s.wakeEntry e).notifiesHost <;>
    cases hm : acting.any fun e => (s.wakeEntry e).notifiesMgmt
  · exact if_neg (by rw [← Bool.not_eq_true] at hm; exact hm)
  · exact if_pos hm
  · exact if_neg (by rw [← Bool.not_eq_true] at hm; exact hm)
  · exact if_pos hm

/-- `s` after the causes and the one request of the acting entries (R127, R128, R130). -/
def State.actOn (s : State) (acting : List (Fin 16)) : State :=
  match highest (fun e => (s.wakeEntry e).targetOf) acting with
  | none => s.notifyWake acting
  | some T => (s.notifyWake acting).arrive (wakeRequest T)

theorem actOn_actedOn (s : State) (acting : List (Fin 16)) {acts : Fin 16 → Prop} (h : ∀ f, f ∈ acting ↔ acts f) :
    s.actedOn (s.actOn acting) acts := by
  obtain rfl : acts = fun f => f ∈ acting := funext fun f => propext (h f).symm
  refine ⟨s.notifyWake acting, ?_, fun hex => ?_, fun hno => ?_, fun hex => ?_, fun hno => ?_, fun hnone => ?_, fun f T hf hT hmax => ?_⟩
  · rw [notifyWake_eq]
  · rw [notifyWake_eq]
    exact if_pos (List.any_eq_true.2 hex)
  · rw [notifyWake_eq]
    exact if_neg (by simpa using hno)
  · rw [notifyWake_eq]
    exact if_pos (List.any_eq_true.2 hex)
  · rw [notifyWake_eq]
    exact if_neg (by simpa using hno)
  · rw [State.actOn, highest_eq_none hnone]
  · rw [State.actOn, highest_eq_some hf hT hmax]
    rfl

theorem takeMatches_eq (s : State) {es : List (Fin 16)} (hes : es.Nodup) : s.takeMatches es =
    (s.withWakes fun f => if f ∈ es then (s.wakeLive f).matched s.uptime else s.wakeLive f).actOn (es.filter s.actsOnMatch) := by
  have hfold : es.foldl (fun t e => t.setWake e ((t.wakeLive e).matched t.uptime)) s =
      s.withWakes fun f => if f ∈ es then (s.wakeLive f).matched s.uptime else s.wakeLive f :=
    foldl_wakes (fun _ l => l.matched s.uptime) (fun w e => by rw [setWake_withWakes, withWakes_wakeLive]; rfl) hes
  unfold State.takeMatches State.actOn
  rw [hfold]
  rfl

theorem actsOnMatch_iff (s : State) (e : Fin 16) : s.actsOnMatch e = true ↔
    (s.wakeLive e).pending = false ∧ s.plat.phase ≠ .halted ∧ (s.wakeEntry e).armedAt s.plat.reference = true := by
  simp [State.actsOnMatch, and_assoc]

/-! ### Edges -/

theorem matched_eq_edgeRecord {s : State} {f : Fin 16} {high : Bool} (h : (s.wakeEntry f).matchesHigh = high) :
    WakeLive.matched { s.wakeLive f with level := some high, filter := none } s.uptime = s.edgeRecord f high :=
  (if_pos h).symm

/-- The edges of these entries: their records, and the entries that act on their matches (R124, R125, R127). -/
theorem takeEdges_eq (s : State) {es : List (Fin 16)} (hes : es.Nodup) (high : Fin 16 → Bool) : ∃ acting,
    (∀ f, f ∈ acting ↔ f ∈ es ∧ s.edgeActs f (high f)) ∧ s.takeEdges es high =
      (s.withWakes fun f => if f ∈ es then s.edgeRecord f (high f) else s.wakeLive f).actOn acting := by
  have hfold : es.foldl (fun t e => t.setWake e { t.wakeLive e with level := some (high e), filter := none }) s =
      s.withWakes fun f => if f ∈ es then { s.wakeLive f with level := some (high f), filter := none } else s.wakeLive f :=
    foldl_wakes (fun e l => { l with level := some (high e), filter := none })
      (fun w e => by rw [setWake_withWakes, withWakes_wakeLive]) hes
  unfold State.takeEdges
  rw [hfold]
  dsimp only
  rw [takeMatches_eq _ (hes.filter _)]
  refine ⟨_, fun f => ?_, congrArg (State.actOn · _) ?_⟩
  · rw [List.mem_filter, List.mem_filter, actsOnMatch_iff, withWakes_wakeLive]
    unfold State.edgeActs
    by_cases hf : f ∈ es
    · simp [hf]; tauto
    · simp [hf]
  · refine congrArg s.withWakes (funext fun f => ?_)
    simp only [withWakes_wakeLive, List.mem_filter]
    by_cases hf : f ∈ es
    · rw [if_pos hf, if_pos hf]
      by_cases hm : (s.wakeEntry f).matchesHigh = high f
      · rw [if_pos ⟨hf, beq_iff_eq.2 hm⟩]
        exact matched_eq_edgeRecord hm
      · rw [if_neg fun h => hm (beq_iff_eq.1 h.2)]
        exact (if_neg hm).symm
    · rw [if_neg fun h => hf h.1, if_neg hf, if_neg hf]

end Sys2Proof.Machine

/-! # Wake lines and intervals

What the filters make of their lines, and the three commands of the wake router (R124, R125, R127, R128, R131). -/

namespace Sys2Proof.Machine

/-! ### The filters look at their lines -/

theorem wakeMoves_iff (s : State) (e : Fin 16) : s.wakeMoves e = true ↔
    (s.wakeLive e).level = some (!s.lineLevel (s.wakeEntry e)) ∧ (s.wakeLive e).filter = none := by
  unfold State.wakeMoves
  cases hl : (s.wakeLive e).level with
  | none => simp
  | some level => cases level <;> cases s.lineLevel (s.wakeEntry e) <;> simp

/-- One record after its filter has looked at a line at this level, but for an edge taken at once. -/
def WakeLive.filtered (l : WakeLive) (level : Bool) (len : Nat) (change : Option Nat) : WakeLive :=
  if l.level = some level then { l with filter := none }
  else if l.level = some (!level) ∧ l.filter = none then { l with filter := some ⟨level, len, len, change⟩ }
  else l

theorem lookAtWake_withWakes (s : State) (change : Option Nat) (w : Fin 16 → WakeLive) (e : Fin 16) :
    (s.withWakes w).lookAtWake change e = s.withWakes (Function.update w e
      ((w e).filtered (s.lineLevel (s.wakeEntry e)) (s.wakeEntry e).debounce change)) := by
  unfold State.lookAtWake WakeLive.filtered
  simp only [wakeMoves_iff, withWakes_wakeLive, withWakes_lineLevel, withWakes_wakeEntry, setWake_withWakes]
  split_ifs
  · rfl
  · rfl
  · rw [Function.update_eq_self]

/-- A wake entry's record after its filter has looked at its line (R124). -/
def State.lookedAt (s : State) (change : Option Nat) (f : Fin 16) : WakeLive :=
  if s.wakeMoves f = true ∧ (s.wakeEntry f).debounce = 0 then s.edgeRecord f (s.lineLevel (s.wakeEntry f))
  else (s.wakeLive f).filtered (s.lineLevel (s.wakeEntry f)) (s.wakeEntry f).debounce change

theorem edgeRecord_withWakes {s : State} {w : Fin 16 → WakeLive} {f : Fin 16} (h : w f = s.wakeLive f) (high : Bool) :
    (s.withWakes w).edgeRecord f high = s.edgeRecord f high := by
  unfold State.edgeRecord
  rw [withWakes_wakeLive, h]
  rfl

theorem edgeActs_withWakes {s : State} {w : Fin 16 → WakeLive} {f : Fin 16} (h : w f = s.wakeLive f) (high : Bool) :
    (s.withWakes w).edgeActs f high ↔ s.edgeActs f high := by
  unfold State.edgeActs
  rw [withWakes_wakeLive, h]
  rfl

/-- The filters of these entries look at their lines: their records, and the entries that act on edges taken at once. -/
theorem lookAtWakes_eq (s : State) (change : Option Nat) {es : List (Fin 16)} (hes : es.Nodup) : ∃ acting,
    (∀ f, f ∈ acting ↔ f ∈ es ∧ s.wakeMoves f = true ∧ (s.wakeEntry f).debounce = 0 ∧
      s.edgeActs f (s.lineLevel (s.wakeEntry f))) ∧
    s.lookAtWakes change es =
      (s.withWakes fun f => if f ∈ es then s.lookedAt change f else s.wakeLive f).actOn acting := by
  have hatOnce : ∀ f, f ∈ (es.filter fun e => s.wakeMoves e && (s.wakeEntry e).debounce == 0) ↔
      f ∈ es ∧ s.wakeMoves f = true ∧ (s.wakeEntry f).debounce = 0 := fun f => by simp
  unfold State.lookAtWakes
  have hnodup := hes.filter fun e => s.wakeMoves e && (s.wakeEntry e).debounce == 0
  generalize (es.filter fun e => s.wakeMoves e && (s.wakeEntry e).debounce == 0) = atOnce at hatOnce hnodup
  have hfold := foldl_wakes (op := fun t e => t.lookAtWake change e) (s := s)
    (fun e l => l.filtered (s.lineLevel (s.wakeEntry e)) (s.wakeEntry e).debounce change)
    (fun w e => lookAtWake_withWakes s change w e) (hes.filter fun e => !atOnce.contains e)
  dsimp only
  rw [hfold]
  have hkept : ∀ f ∈ atOnce, (if f ∈ es.filter (fun e => !atOnce.contains e) then
      (s.wakeLive f).filtered (s.lineLevel (s.wakeEntry f)) (s.wakeEntry f).debounce change else s.wakeLive f) = s.wakeLive f :=
    fun f hf => if_neg (by simp [hf])
  obtain ⟨acting, hacting, hedges⟩ := takeEdges_eq (s.withWakes fun f => if f ∈ es.filter (fun e => !atOnce.contains e) then
      (s.wakeLive f).filtered (s.lineLevel (s.wakeEntry f)) (s.wakeEntry f).debounce change else s.wakeLive f) hnodup
    fun e => s.lineLevel (s.wakeEntry e)
  refine ⟨acting, fun f => ?_, hedges.trans (congrArg (State.actOn · acting) (congrArg s.withWakes (funext fun f => ?_)))⟩
  · rw [hacting, ← and_assoc, ← and_assoc, and_assoc (a := f ∈ es), ← hatOnce]
    exact and_congr_right fun hf => edgeActs_withWakes (hkept f hf) _
  · by_cases hf : f ∈ atOnce
    · obtain ⟨hmem, hmoves⟩ := (hatOnce f).1 hf
      rw [if_pos hf, if_pos hmem, edgeRecord_withWakes (hkept f hf)]
      exact (if_pos hmoves).symm
    · rw [if_neg hf, withWakes_wakeLive]
      by_cases hmem : f ∈ es
      · rw [if_pos hmem, if_pos (by simp [hmem, hf])]
        exact (if_neg fun h => hf ((hatOnce f).2 ⟨hmem, h⟩)).symm
      · rw [if_neg hmem, if_neg (by simp [hmem])]

/-- A record once watching has begun at its entry, before its filter looks at the line (R124). -/
def State.watchBegun (s : State) (e : Fin 16) (l : WakeLive) : WakeLive :=
  { l with
    level := some (if (s.wakeEntry e).levelSense then !(s.wakeEntry e).matchesHigh else s.lineLevel (s.wakeEntry e))
    filter := none }

theorem wakeMoves_of_begun {s : State} {w : Fin 16 → WakeLive} {f : Fin 16} (h : w f = s.watchBegun f (s.wakeLive f)) :
    (s.withWakes w).wakeMoves f = true ↔
      (s.wakeEntry f).levelSense = true ∧ s.lineLevel (s.wakeEntry f) = (s.wakeEntry f).matchesHigh := by
  rw [wakeMoves_iff, withWakes_wakeLive, h]
  unfold State.watchBegun
  rw [withWakes_wakeEntry, withWakes_lineLevel]
  cases (s.wakeEntry f).levelSense <;> cases s.lineLevel (s.wakeEntry f) <;> cases (s.wakeEntry f).matchesHigh <;> simp

theorem edgeActs_of_begun {s : State} {w : Fin 16 → WakeLive} {f : Fin 16} (h : w f = s.watchBegun f (s.wakeLive f))
    (high : Bool) : (s.withWakes w).edgeActs f high ↔ s.edgeActs f high := by
  unfold State.edgeActs
  rw [withWakes_wakeLive, h]
  rfl

theorem lookedAt_of_begun {s : State} {w : Fin 16 → WakeLive} {f : Fin 16} (h : w f = s.watchBegun f (s.wakeLive f)) :
    (s.withWakes w).lookedAt none f = s.watchedAnew f := by
  have hmoves := wakeMoves_of_begun h
  unfold State.lookedAt State.watchedAnew
  simp only [hmoves, withWakes_wakeEntry, withWakes_lineLevel, withWakes_wakeLive, h]
  unfold State.edgeRecord WakeLive.filtered State.watchBegun
  rw [withWakes_wakeEntry]
  generalize s.lineLevel (s.wakeEntry f) = line
  cases (s.wakeEntry f).levelSense
  case false => simp
  cases line <;> cases (s.wakeEntry f).matchesHigh <;> by_cases hd : (s.wakeEntry f).debounce = 0 <;> simp [hd, State.withWakes]

/-- Watching starts at these entries: their records, and the entries that match and act at once (R124, R127). -/
theorem startWatching_eq (s : State) {es : List (Fin 16)} (hes : es.Nodup) : ∃ acting,
    (∀ f, f ∈ acting ↔ f ∈ es ∧ (s.wakeEntry f).levelSense = true ∧ (s.wakeEntry f).debounce = 0 ∧
      s.lineLevel (s.wakeEntry f) = (s.wakeEntry f).matchesHigh ∧ (s.wakeLive f).pending = false ∧
      s.plat.phase ≠ .halted ∧ (s.wakeEntry f).armedAt s.plat.reference = true) ∧
    s.startWatching es = (s.withWakes fun f => if f ∈ es then s.watchedAnew f else s.wakeLive f).actOn acting := by
  have hfold := foldl_wakes (op := fun (t : State) e => t.setWake e { t.wakeLive e with
      level := some (if (t.wakeEntry e).levelSense then !(t.wakeEntry e).matchesHigh else t.lineLevel (t.wakeEntry e))
      filter := none }) (s := s) s.watchBegun (fun w e => by rw [setWake_withWakes, withWakes_wakeLive]; rfl) hes
  unfold State.startWatching
  dsimp only at hfold ⊢
  rw [hfold]
  obtain ⟨acting, hacting, hlooked⟩ := lookAtWakes_eq
    (s.withWakes fun f => if f ∈ es then s.watchBegun f (s.wakeLive f) else s.wakeLive f) none hes
  refine ⟨acting, fun f => ?_, hlooked.trans (congrArg (State.actOn · acting) (congrArg s.withWakes (funext fun f => ?_)))⟩
  · rw [hacting]
    refine and_congr_right fun hf => ?_
    rw [wakeMoves_of_begun (if_pos hf), edgeActs_of_begun (if_pos hf)]
    unfold State.edgeActs
    rw [withWakes_wakeEntry, withWakes_lineLevel]
    constructor
    · rintro ⟨⟨hsense, hline⟩, hdebounce, -, hpending, hphase, harmed⟩
      exact ⟨hsense, hdebounce, hline, hpending, hphase, harmed⟩
    · rintro ⟨hsense, hdebounce, hline, hpending, hphase, harmed⟩
      exact ⟨⟨hsense, hline⟩, hdebounce, hline.symm, hpending, hphase, harmed⟩
  · by_cases hf : f ∈ es
    · rw [if_pos hf, if_pos hf, lookedAt_of_begun (if_pos hf)]
    · rw [if_neg hf, if_neg hf, withWakes_wakeLive, if_neg hf]

/-! ### WAKE_LINE_CHANGE -/

theorem onLine_iff (e : WakeEntry) (line : Fin 16) : e.onLine line = true ↔ e.line.toNat = line.val := by
  simp [WakeEntry.onLine]

theorem lineLevel_of_onLine {s : State} {line : Fin 16} {high : Bool} (hset : s.inputs.wk[line] = high) {e : WakeEntry}
    (h : e.onLine line = true) : s.lineLevel e = high := by
  unfold State.lineLevel
  rw [(onLine_iff e line).1 h, List.getD_eq_getElem _ _ (by simp)]
  exact hset

/-- The part after a wake line has moved, before its filters look (R124, log 10). -/
def State.lineMoved (s : State) (line : Fin 16) (high : Bool) : State :=
  { s.withPin (.wakeLineChange line high) with lineChanges := s.lineChanges + 1 }

theorem lineMoved_wk (s : State) (line : Fin 16) (high : Bool) : (s.lineMoved line high).inputs.wk[line] = high :=
  Vector.getElem_set_self _

theorem lineMoved_withWakes_frame (s : State) (line : Fin 16) (high : Bool) (w : Fin 16 → WakeLive) :
    { (s.lineMoved line high).withWakes w with wakes := s.wakes } =
      { s.withPin (.wakeLineChange line high) with lineChanges := s.lineChanges + 1 } := by
  unfold State.withWakes State.lineMoved
  rfl

theorem lineMoved_wakeMoves_iff {s : State} {line : Fin 16} {f : Fin 16} (high : Bool)
    (h : (s.wakeEntry f).onLine line = true) : (s.lineMoved line high).wakeMoves f = true ↔
      (s.wakeLive f).level = some (!high) ∧ (s.wakeLive f).filter = none := by
  have hlevel : (s.lineMoved line high).lineLevel ((s.lineMoved line high).wakeEntry f) = high :=
    lineLevel_of_onLine (lineMoved_wk s line high) h
  rw [wakeMoves_iff, hlevel]
  rfl

theorem lineMoved_lookedAt {s : State} {line : Fin 16} {f : Fin 16} (high : Bool) (change : Option Nat)
    (h : (s.wakeEntry f).onLine line = true) : (s.lineMoved line high).lookedAt change f =
      if ((s.wakeLive f).level = some (!high) ∧ (s.wakeLive f).filter = none) ∧ (s.wakeEntry f).debounce = 0 then
        s.edgeRecord f high
      else (s.wakeLive f).filtered high (s.wakeEntry f).debounce change := by
  have hlevel : (s.lineMoved line high).lineLevel ((s.lineMoved line high).wakeEntry f) = high :=
    lineLevel_of_onLine (lineMoved_wk s line high) h
  unfold State.lookedAt
  simp only [lineMoved_wakeMoves_iff high h, hlevel]
  rfl

/-- A wake entry's record after its line, moved to this level, has been looked at (R124, R125). -/
def State.lineRecord (s : State) (line : Fin 16) (high : Bool) (f : Fin 16) : WakeLive :=
  if (s.wakeEntry f).onLine line = true then
    if ((s.wakeLive f).level = some (!high) ∧ (s.wakeLive f).filter = none) ∧ (s.wakeEntry f).debounce = 0 then
      s.edgeRecord f high
    else (s.wakeLive f).filtered high (s.wakeEntry f).debounce (some s.lineChanges)
  else s.wakeLive f

theorem lineRecord_cases (s : State) (line : Fin 16) (high : Bool) (f : Fin 16) :
    ((s.wakeEntry f).onLine line = false ∨ (s.wakeLive f).level = none → s.lineRecord line high f = s.wakeLive f) ∧
    ((s.wakeEntry f).onLine line = true → (s.wakeLive f).level = some high →
      s.lineRecord line high f = { s.wakeLive f with filter := none }) ∧
    ((s.wakeEntry f).onLine line = true → (s.wakeLive f).level = some !high → (s.wakeLive f).filter ≠ none →
      s.lineRecord line high f = s.wakeLive f) ∧
    ((s.wakeEntry f).onLine line = true ∧ (s.wakeLive f).level = some !high ∧ (s.wakeLive f).filter = none →
      (s.wakeEntry f).debounce ≠ 0 → s.lineRecord line high f = { s.wakeLive f with
        filter := some ⟨high, (s.wakeEntry f).debounce, (s.wakeEntry f).debounce, some s.lineChanges⟩ }) ∧
    ((s.wakeEntry f).onLine line = true ∧ (s.wakeLive f).level = some !high ∧ (s.wakeLive f).filter = none →
      (s.wakeEntry f).debounce = 0 → s.lineRecord line high f = s.edgeRecord f high) := by
  unfold State.lineRecord WakeLive.filtered
  refine ⟨fun h => ?_, fun hon hl => ?_, fun hon hl hf => ?_, fun ⟨hon, hl, hf⟩ hd => ?_, fun ⟨hon, hl, hf⟩ hd => ?_⟩
  · rcases h with h | h <;> simp [h]
  · simp [hon, hl]
  · simp [hon, hl, hf]
  · simp [hon, hl, hf, hd]
  · simp [hon, hl, hf, hd]

theorem lookAtLine_eq (s : State) (line : Fin 16) (high : Bool) : ∃ acting,
    (∀ f, f ∈ acting ↔ ((s.wakeEntry f).onLine line = true ∧ (s.wakeLive f).level = some (!high) ∧ (s.wakeLive f).filter = none) ∧
      (s.wakeEntry f).debounce = 0 ∧ s.edgeActs f high) ∧
    (s.lineMoved line high).lookAtWakes (some s.lineChanges) (allEntries.filter fun e => (s.wakeEntry e).onLine line) =
      ((s.lineMoved line high).withWakes (s.lineRecord line high)).actOn acting := by
  obtain ⟨acting, hacting, hlook⟩ := lookAtWakes_eq (s.lineMoved line high) (some s.lineChanges)
    (nodup_filter_allEntries fun e => (s.wakeEntry e).onLine line)
  refine ⟨acting, fun f => ?_, hlook.trans (congrArg (State.actOn · acting) (congrArg (s.lineMoved line high).withWakes
    (funext fun f => ?_)))⟩
  · rw [hacting, mem_filter_allEntries, and_assoc]
    refine and_congr_right fun hon => ?_
    have hlevel : (s.lineMoved line high).lineLevel ((s.lineMoved line high).wakeEntry f) = high :=
      lineLevel_of_onLine (lineMoved_wk s line high) hon
    rw [lineMoved_wakeMoves_iff high hon, hlevel]
    rfl
  · unfold State.lineRecord
    by_cases hf : (s.wakeEntry f).onLine line = true
    · rw [if_pos ((mem_filter_allEntries _ f).2 hf), if_pos hf, lineMoved_lookedAt high _ hf]
    · rw [if_neg (fun h => hf ((mem_filter_allEntries _ f).1 h)), if_neg hf]
      rfl

/-- Settles O26: each entry on the line by its debounced level, interval and debounce time. -/
theorem wakeLineChangeDrivesEachEntry : Obligations.WakeLineChangeDrivesEachEntry := by
  intro s line high hp moves
  obtain ⟨acting, hacting, hlook⟩ := lookAtLine_eq s line high
  have hexec : exec (.wakeLineChange line high) s = .next ((s.lineMoved line high).lookAtWakes (some s.lineChanges)
      (allEntries.filter fun e => (s.wakeEntry e).onLine line)).finish :=
    congrArg Host.Outcome.next (event_of_running (s := s.withPin (.wakeLineChange line high))
      (fun t => State.lookAtWakes { t with lineChanges := t.lineChanges + 1 } (some t.lineChanges)
        (allEntries.filter fun e => (t.wakeEntry e).onLine line)) hp)
  refine ⟨(s.lineMoved line high).withWakes (s.lineRecord line high), _, lineMoved_withWakes_frame s line high (s.lineRecord line high), fun f => ?_,
    actOn_actedOn _ acting hacting, hexec.trans (by rw [hlook])⟩
  rw [withWakes_wakeLive]
  exact lineRecord_cases s line high f

/-! ### WAKE_DEBOUNCE_EXPIRY -/

theorem mem_endsWith (s : State) (e : Fin 16) (i : WakeInterval) (f : Fin 16) : f ∈ s.endsWith e i ↔ f = e ∨
    (i.change ≠ none ∧ (s.wakeEntry f).line = (s.wakeEntry e).line ∧ (s.wakeLive f).level ≠ none ∧
      (s.wakeLive f).filter = some i) := by
  unfold State.endsWith
  rw [mem_filter_allEntries]
  simp [Option.isSome_iff_ne_none, and_assoc]

/-- Settles O27: the entries that end together take the edge together. -/
theorem wakeDebounceExpiryMatches : Obligations.WakeDebounceExpiryMatches := by
  intro s entry
  refine ⟨fun h => exec_eventIf_of_not _ ?_, fun i hp hl hf hleft => ?_⟩
  · rw [← Bool.not_eq_true, wakeDue_iff]
    rintro ⟨hlevel, i, hi, hleft⟩
    exact h.elim hlevel (fun h => h i hi hleft)
  have hexec : exec (.wakeDebounceExpiry entry) s = .next (s.endWakeInterval entry).finish :=
    exec_eventIf_of _ ((wakeDue_iff s entry).2 ⟨hl, i, hf, hleft⟩) hp
  have hend : s.endWakeInterval entry = s.takeEdges (s.endsWith entry i) fun _ => i.toward := by
    rw [State.endWakeInterval, hf]
  have hnodup : (s.endsWith entry i).Nodup := nodup_filter_allEntries _
  obtain ⟨acting, hacting, hedges⟩ := takeEdges_eq s hnodup fun _ => i.toward
  refine ⟨s.withWakes fun f => if f ∈ s.endsWith entry i then s.edgeRecord f i.toward else s.wakeLive f, _, withWakes_frame s _,
    fun f hn => ?_, fun f he => ?_, actOn_actedOn _ acting fun f => ?_, ?_⟩
  · rw [withWakes_wakeLive, if_neg fun h => hn ((mem_endsWith s entry i f).1 h)]
  · rw [withWakes_wakeLive, if_pos ((mem_endsWith s entry i f).2 he)]
  · rw [hacting, mem_endsWith]
  · rw [hexec, hend, hedges]

end Sys2Proof.Machine

/-! # CLEAR_WAKE and SUBMIT -/

namespace Sys2Proof.Machine

/-! ### CLEAR_WAKE -/

theorem setWake_eq (s : State) (e : Fin 16) (l : WakeLive) : s.setWake e l = s.withWakes (Function.update s.wakeLive e l) := by
  have hset := setWake_withWakes s s.wakeLive e l
  rwa [withWakes_self] at hset

theorem actOn_nil (s : State) : s.actOn [] = s := by
  have hnone : highest (fun e => (s.wakeEntry e).targetOf) [] = none := rfl
  rw [State.actOn, hnone, notifyWake_eq]
  rfl

theorem notifyWake_singleton (s : State) (e : Fin 16) : s.notifyWake [e] = { s with causes :=
    ⟨if (s.wakeEntry e).notifiesHost then s.causes.host ||| 0x0010 else s.causes.host,
      if (s.wakeEntry e).notifiesMgmt then s.causes.mgmt ||| 0x0010 else s.causes.mgmt⟩ } := by
  rw [notifyWake_eq]
  simp

theorem actOn_singleton_of_none {s : State} {e : Fin 16} (h : (s.wakeEntry e).targetOf = none) :
    s.actOn [e] = s.notifyWake [e] := by
  rw [State.actOn, show highest (fun e => (s.wakeEntry e).targetOf) [e] = (s.wakeEntry e).targetOf from rfl, h]

theorem actOn_singleton_of_some {s : State} {e : Fin 16} {T : Level} (h : (s.wakeEntry e).targetOf = some T) :
    s.actOn [e] = (s.notifyWake [e]).arrive (plainRequest .wake .normal T) := by
  rw [State.actOn, show highest (fun e => (s.wakeEntry e).targetOf) [e] = (s.wakeEntry e).targetOf from rfl, h]
  rfl

/-- A cleared entry that matches again: its record, and the entry itself when it is armed (R131). -/
theorem takeMatches_cleared (s : State) (e : Fin 16) :
    (s.setWake e { s.wakeLive e with pending := false }).takeMatches [e] =
      (s.setWake e { s.wakeLive e with pending := true, lastMatch := some s.uptime }).actOn
        (if s.plat.phase ≠ .halted ∧ (s.wakeEntry e).armedAt s.plat.reference = true then [e] else []) := by
  rw [takeMatches_eq _ (List.nodup_singleton e)]
  refine congrArg₂ State.actOn ?_ ?_
  · rw [setWake_eq, setWake_eq, withWakes_withWakes]
    refine congrArg s.withWakes (funext fun f => ?_)
    by_cases hf : f = e
    · subst hf
      rw [if_pos (List.mem_singleton_self f), withWakes_wakeLive, Function.update_self, Function.update_self]
      rfl
    · simp [hf]
  · have hacts : (s.setWake e { s.wakeLive e with pending := false }).actsOnMatch e = true ↔
        s.plat.phase ≠ .halted ∧ (s.wakeEntry e).armedAt s.plat.reference = true := by
      rw [actsOnMatch_iff, setWake_eq, withWakes_wakeLive, Function.update_self]
      exact ⟨fun h => h.2, fun h => ⟨rfl, h⟩⟩
    by_cases h : s.plat.phase ≠ .halted ∧ (s.wakeEntry e).armedAt s.plat.reference = true
    · rw [if_pos h, List.filter_cons_of_pos (hacts.2 h), List.filter_nil]
    · rw [if_neg h, List.filter_cons_of_neg (fun k => h (hacts.1 k)), List.filter_nil]

theorem clearWakeCommand_of_valid {s : State} {p : Port} {e : Fin 16} (h : (s.arg p 0).toNat = e.val) :
    s.clearWakeCommand p = (s.clearWakeEntry e).finished p .ok noDetail := by
  have hlt : (s.arg p 0).toNat < 16 := by rw [h]; exact e.isLt
  have he : (⟨(s.arg p 0).toNat, hlt⟩ : Fin 16) = e := Fin.ext h
  rw [State.clearWakeCommand]
  exact (dif_pos hlt).trans (by rw [he, reply_eq_finished])

theorem clearWakeCommand_of_invalid {s : State} {p : Port} (h : 16 ≤ (s.arg p 0).toNat) :
    s.clearWakeCommand p = s.finished p .invalid noDetail :=
  dif_neg (Nat.not_lt.2 h)

/-- The entry is enabled and level-sense, and its line still stands at its active level (R131). -/
def State.stillActive (s : State) (e : Fin 16) : Prop :=
  (s.wakeEntry e).enabled = true ∧ (s.wakeEntry e).levelSense = true ∧
    (s.wakeLive e).level = some (s.wakeEntry e).matchesHigh

theorem clearWakeEntry_again_iff (s : State) (e : Fin 16) : ((s.wakeEntry e).enabled && (s.wakeEntry e).levelSense &&
    ((s.setWake e { s.wakeLive e with pending := false }).wakeLive e).level == some (s.wakeEntry e).matchesHigh) = true ↔
      s.stillActive e := by
  rw [setWake_eq, withWakes_wakeLive, Function.update_self]
  simp [State.stillActive, and_assoc]

theorem clearWakeEntry_of_not {s : State} {e : Fin 16} (h : ¬s.stillActive e) :
    s.clearWakeEntry e = s.setWake e { s.wakeLive e with pending := false } :=
  if_neg fun k => h ((clearWakeEntry_again_iff s e).1 k)

theorem clearWakeEntry_of_unarmed {s : State} {e : Fin 16} (h : s.stillActive e)
    (harmed : ¬(s.plat.phase ≠ .halted ∧ (s.wakeEntry e).armedAt s.plat.reference = true)) :
    s.clearWakeEntry e = s.setWake e { s.wakeLive e with pending := true, lastMatch := some s.uptime } := by
  refine (if_pos ((clearWakeEntry_again_iff s e).2 h)).trans ((takeMatches_cleared s e).trans ?_)
  rw [if_neg harmed, actOn_nil]

theorem clearWakeEntry_of_armed {s : State} {e : Fin 16} (h : s.stillActive e)
    (harmed : s.plat.phase ≠ .halted ∧ (s.wakeEntry e).armedAt s.plat.reference = true) : s.clearWakeEntry e =
      (s.setWake e { s.wakeLive e with pending := true, lastMatch := some s.uptime }).actOn [e] := by
  refine (if_pos ((clearWakeEntry_again_iff s e).2 h)).trans ((takeMatches_cleared s e).trans ?_)
  rw [if_pos harmed]

/-- `s` after entry `e` has matched and the ports it notifies have been told (R127, R131). -/
def State.matchedAndTold (s : State) (e : Fin 16) : State :=
  { s.setWake e { s.wakeLive e with pending := true, lastMatch := some s.uptime } with causes :=
    ⟨if (s.wakeEntry e).notifiesHost then s.causes.host ||| 0x0010 else s.causes.host,
      if (s.wakeEntry e).notifiesMgmt then s.causes.mgmt ||| 0x0010 else s.causes.mgmt⟩ }

theorem clearWakeEntry_of_no_target {s : State} {e : Fin 16} (h : s.stillActive e)
    (harmed : s.plat.phase ≠ .halted ∧ (s.wakeEntry e).armedAt s.plat.reference = true)
    (hT : (s.wakeEntry e).targetOf = none) : s.clearWakeEntry e = s.matchedAndTold e := by
  rw [clearWakeEntry_of_armed h harmed, actOn_singleton_of_none (by exact hT), notifyWake_singleton]
  rfl

theorem clearWakeEntry_of_target {s : State} {e : Fin 16} {T : Level} (h : s.stillActive e)
    (harmed : s.plat.phase ≠ .halted ∧ (s.wakeEntry e).armedAt s.plat.reference = true)
    (hT : (s.wakeEntry e).targetOf = some T) :
    s.clearWakeEntry e = (s.matchedAndTold e).arrive (plainRequest .wake .normal T) := by
  rw [clearWakeEntry_of_armed h harmed, actOn_singleton_of_some (by exact hT), notifyWake_singleton]
  rfl

/-- Settles O35: by whether the entry is still active, armed and has a target. -/
theorem clearWakeClearsAndMayMatchAgain : Obligations.ClearWakeClearsAndMayMatchAgain := by
  intro s p ht
  have hexec : exec (.clearWake p) s = .next ((s.commanded p 0x05).clearWakeCommand p).finish :=
    congrArg Host.Outcome.next (commandByte_of_takesCommand 0x05 _ ht)
  have harg : (s.commanded p 0x05).arg p 0 = s.arg p 0 := arg_commanded s p p 0x05 0
  rw [hexec]
  refine ⟨fun h => ?_, fun e he => ?_⟩
  · rw [clearWakeCommand_of_invalid (by rw [harg]; exact h)]
    rfl
  rw [clearWakeCommand_of_valid (by rw [harg]; exact he)]
  have hnext : ∀ {t u : State}, t = u → (Host.Outcome.next (t.finished p .ok noDetail).finish :
      Host.Outcome State Fault Refusal) = .next (u.finished p .ok noDetail).finish := fun h => by rw [h]
  refine ⟨fun hno => hnext (clearWakeEntry_of_not (s := s.commanded p 0x05) hno),
    fun hagain harmed => hnext (clearWakeEntry_of_unarmed (s := s.commanded p 0x05) hagain harmed),
    fun hagain harmed hT => hnext (clearWakeEntry_of_no_target (s := s.commanded p 0x05) hagain harmed hT),
    fun T hagain harmed hT => hnext (clearWakeEntry_of_target (s := s.commanded p 0x05) hagain harmed hT)⟩

end Sys2Proof.Machine

/-! # SUBMIT

Its arguments as a request, its checks in their order, and the accepted request (R76 to R78, R179). -/

namespace Sys2Proof.Machine

/-! ### Argument bytes -/

theorem rank_le_three (L : Level) : L.rank ≤ 3 := by cases L <;> decide

theorem levelOfCode_eq_some {b : Byte} {L : Level} (h : levelOfCode b = some L) : b = BitVec.ofNat 8 L.rank := by
  unfold levelOfCode levelOfByte at h
  split_ifs at h with h0 h1 h2 h3 <;> cases h <;> assumption

theorem levelOfCode_eq_none_iff (b : Byte) : levelOfCode b = none ↔ 3 < b.toNat := by
  constructor
  · intro h
    by_contra hle
    obtain ⟨k, hk⟩ : ∃ k, k = b.toNat := ⟨_, rfl⟩
    obtain rfl : b = BitVec.ofNat 8 k := by rw [hk]; simp
    rw [← hk] at hle
    interval_cases k <;> cases h
  · intro h
    rw [Option.eq_none_iff_forall_ne_some]
    intro L hL
    rw [levelOfCode_eq_some hL] at h
    have hL3 := rank_le_three L
    rw [BitVec.toNat_ofNat] at h
    omega

theorem kindOfCode_eq_none_iff (b : Byte) : kindOfCode b = none ↔ 1 < b.toNat := by
  unfold kindOfCode
  split_ifs with h0 h1
  · simp [h0]
  · simp [h1]
  · simp only [true_iff]
    bv_omega

theorem kindOfCode_eq_some {b : Byte} {k : Kind} (h : kindOfCode b = some k) : k = if b = 0 then .normal else .forced := by
  unfold kindOfCode at h
  split_ifs at h <;> cases h <;> simp_all

theorem viaOfCode_eq_none_iff (b : Byte) : viaOfCode b = none ↔ 3 < b.toNat ∧ b ≠ 0xFF := by
  unfold viaOfCode
  split_ifs with h
  · simp [h]
  · rw [Option.map_eq_none_iff, levelOfCode_eq_none_iff]
    exact ⟨fun hlt => ⟨hlt, h⟩, fun hlt => hlt.1⟩

theorem viaOfCode_eq_some {b : Byte} {via : Option Level} (h : viaOfCode b = some via) :
    b = (via.map fun v => BitVec.ofNat 8 v.rank).getD 0xFF := by
  unfold viaOfCode at h
  split_ifs at h with hff
  · cases h; exact hff
  · obtain ⟨L, hL, rfl⟩ := Option.map_eq_some_iff.1 h
    exact levelOfCode_eq_some hL

theorem submitted_eq_none_iff (s : State) (p : Port) : s.submitted p = none ↔
    1 < (s.arg p 0).toNat ∨ 3 < (s.arg p 1).toNat ∨ (3 < (s.arg p 2).toNat ∧ s.arg p 2 ≠ 0xFF) := by
  rw [← kindOfCode_eq_none_iff, ← levelOfCode_eq_none_iff, ← viaOfCode_eq_none_iff]
  unfold State.submitted
  cases kindOfCode (s.arg p 0) <;> cases levelOfCode (s.arg p 1) <;> cases viaOfCode (s.arg p 2) <;> simp

theorem submitted_eq_some {s : State} {p : Port} {r : Request} (h : s.submitted p = some r) :
    kindOfCode (s.arg p 0) = some r.kind ∧ levelOfCode (s.arg p 1) = some r.target ∧ viaOfCode (s.arg p 2) = some r.via ∧
      r.source = Port.source p ∧ r.recycle = (s.arg p 3).getLsbD 0 ∧ r.tag = some (s.arg p 4) ∧ r.alternate = false := by
  unfold State.submitted at h
  split at h
  · next kind target via hk ht hv =>
    cases h
    exact ⟨hk, ht, hv, by cases p <;> rfl, rfl, rfl, rfl⟩
  · cases h

/-! ### The checks -/

theorem sound_iff (r : Request) (p : Port) : Request.sound r p = true ↔
    ¬((∃ v, r.via = some v ∧ r.target.rank ≤ v.rank) ∨ (r.recycle = true ∧ r.target ≠ .run) ∨
      (p = .host ∧ r.kind = .forced)) := by
  unfold Request.sound
  cases r.via <;> cases r.recycle <;> simp [rank_lt_iff_below, and_assoc, imp_iff_not_or]

theorem checkSubmit_of_some {s : State} {p : Port} {r : Request} (h : s.submitted p = some r) : s.checkSubmit p =
    if Request.sound r p = false then .error .invalid
    else if s.plat.phase = .halted then .error .halted
    else if p = .host ∧ (s.hostLock = true ∨ s.active.policy.hostTargets.getLsbD r.target.rank = false) then .error .denied
    else if 4 ≤ s.quota p then .error .busy
    else .ok r := by
  unfold State.checkSubmit
  rw [h]
  simp only [Bool.not_eq_true', Policy.hostMayAsk]

theorem submitCommand_of_error {s : State} {p : Port} {e : Result} (h : s.checkSubmit p = .error e) :
    s.submitCommand p = s.finished p e noDetail := by
  rw [State.submitCommand, h]
  exact reply_eq_finished s p e

theorem submitCommand_of_ok {s : State} {p : Port} {r : Request} (h : s.checkSubmit p = .ok r) :
    s.submitCommand p = (s.arrive r).finished p .accepted noDetail := by
  rw [State.submitCommand, h]
  exact reply_eq_finished (s.arrive r) p .accepted

theorem submitted_commanded (s : State) (p : Port) (code : Byte) : (s.commanded p code).submitted p = s.submitted p := by
  simp only [State.submitted, arg_commanded]

theorem checkSubmit_commanded (s : State) (p : Port) (code : Byte) : (s.commanded p code).checkSubmit p = s.checkSubmit p := by
  rw [State.checkSubmit, State.checkSubmit, submitted_commanded]
  rfl

/-- Settles O30: the checks in their order. -/
theorem submitChecksThenAccepts : Obligations.SubmitChecksThenAccepts := by
  refine ⟨fun s p => ⟨fun i => rfl, submitted_eq_none_iff s p, fun r h => ?_, quota_eq s p⟩, fun s p ht => ?_⟩
  · obtain ⟨hk, hlevel, hvia, hsource, hrecycle, htag, halt⟩ := submitted_eq_some h
    refine ⟨?_, kindOfCode_eq_some hk, levelOfCode_eq_some hlevel, ?_, hrecycle, htag, halt⟩
    · rw [hsource]
      cases p <;> rfl
    · rw [viaOfCode_eq_some hvia]
      cases r.via <;> rfl
  have hexec : exec (.submit p) s = .next ((s.commanded p 0x01).submitCommand p).finish :=
    congrArg Host.Outcome.next (commandByte_of_takesCommand 0x01 _ ht)
  have herror : ∀ e, s.checkSubmit p = .error e → exec (.submit p) s = .next (s.answered p 0x01 e noDetail).finish :=
    fun e he => by
      rw [hexec, submitCommand_of_error ((checkSubmit_commanded s p 0x01).trans he)]
      rfl
  refine ⟨fun h => herror .invalid (by rw [State.checkSubmit, h]), fun r h => ?_⟩
  have hcheck := checkSubmit_of_some h
  intro invalid denied
  have hsound : Request.sound r p = false ↔ invalid := by rw [← Bool.not_eq_true, sound_iff, not_not]
  refine ⟨fun hi => herror _ ?_, fun hi hp => herror _ ?_, fun hi hp hd => herror _ ?_, fun hi hp hd hq => herror _ ?_,
    fun hi hp hd hq => ?_⟩
  · rw [hcheck, if_pos (hsound.2 hi)]
  · rw [hcheck, if_neg (fun k => hi (hsound.1 k)), if_pos hp]
  · rw [hcheck, if_neg (fun k => hi (hsound.1 k)), if_neg hp, if_pos hd]
  · rw [hcheck, if_neg (fun k => hi (hsound.1 k)), if_neg hp, if_neg hd, if_pos hq]
  · rw [hexec]
    refine congrArg (fun u => Host.Outcome.next (State.finish u)) (submitCommand_of_ok ?_)
    rw [checkSubmit_commanded, hcheck, if_neg (fun k => hi (hsound.1 k)), if_neg hp, if_neg hd, if_neg (Nat.not_le.2 hq)]

end Sys2Proof.Machine

/-! # The PG filters

What one filter makes of its pin, and the filters of every rail (R23, R24). -/

namespace Sys2Proof.Machine

theorem sampled_iff (s : State) (rail : RailId) : s.sampled rail = true ↔ s.power = .running ∧ s.plat.phase ≠ .halted ∧
    (s.record (railNode rail)).used = true ∧ (s.record (railNode rail)).timed = false := by
  have hrail : isGate (railNode rail) = false := decide_eq_false (Nat.not_le.2 rail.isLt)
  simp [State.sampled, NodeRecord.senses, hrail, and_assoc]

/-! ### One rail -/

theorem lookAtPg_of_not_sampled {s : State} {rail : RailId} (h : s.sampled rail = false) : s.lookAtPg rail = s := by
  simp [State.lookAtPg, h]

theorem lookAtPg_of_level {s : State} {rail : RailId} (h : s.sampled rail = true)
    (hlevel : s.inputs.pg[rail] = (s.node (railNode rail)).good) :
    s.lookAtPg rail = s.setNode (railNode rail) { s.node (railNode rail) with filter := none } := by
  simp only [State.lookAtPg, h, hlevel, Bool.not_true, Bool.false_eq_true, if_false, if_true]

theorem lookAtPg_of_interval {s : State} {rail : RailId} (hlevel : s.inputs.pg[rail] ≠ (s.node (railNode rail)).good)
    (hfilter : (s.node (railNode rail)).filter ≠ none) : s.lookAtPg rail = s := by
  unfold State.lookAtPg
  dsimp only
  rw [if_neg hlevel, if_pos (Option.isSome_iff_ne_none.2 hfilter), ite_self]

theorem lookAtPg_of_start {s : State} {rail : RailId} (h : s.sampled rail = true)
    (hlevel : s.inputs.pg[rail] ≠ (s.node (railNode rail)).good) (hfilter : (s.node (railNode rail)).filter = none)
    (hlen : s.active.policy.goodFilter ≠ 0) : s.lookAtPg rail = s.setNode (railNode rail)
      { s.node (railNode rail) with filter := some ⟨s.inputs.pg[rail], s.active.policy.goodFilter.toNat⟩ } := by
  have hpos : s.active.policy.goodFilter.toNat ≠ 0 := fun k => hlen (BitVec.eq_of_toNat_eq k)
  unfold State.lookAtPg
  dsimp only
  rw [if_neg (by simp [h]), if_neg hlevel, if_neg (by simp [hfilter]), if_neg hpos]

theorem lookAtPg_of_at_once {s : State} {rail : RailId} (h : s.sampled rail = true)
    (hlevel : s.inputs.pg[rail] ≠ (s.node (railNode rail)).good) (hfilter : (s.node (railNode rail)).filter = none)
    (hlen : s.active.policy.goodFilter = 0) : s.lookAtPg rail =
      (if s.inputs.pg[rail] then s.takeGood (railNode rail) else s.loseGood (railNode rail)).finish := by
  have hzero : s.active.policy.goodFilter.toNat = 0 := by rw [hlen]; rfl
  unfold State.lookAtPg
  dsimp only
  rw [if_neg (by simp [h]), if_neg hlevel, if_neg (by simp [hfilter]), if_pos hzero]

/-- With no filter length good moves at once, as the pin stands. -/
theorem good_moved (s : State) (n : NodeId) (high : Bool) :
    if high = true then s.tookGood (if high then s.takeGood n else s.loseGood n) n
    else s.lostGood (if high then s.takeGood n else s.loseGood n) n := by
  cases high
  · exact loseGood_lostGood s n
  · exact takeGood_tookGood s n

theorem lookAtPg_pgLooked (s : State) (rail : RailId) : s.pgLooked (s.lookAtPg rail) rail := by
  unfold State.pgLooked
  dsimp only
  by_cases h : s.sampled rail = false
  · rw [if_pos h]
    exact lookAtPg_of_not_sampled h
  have hsampled : s.sampled rail = true := by simpa using h
  rw [if_neg h]
  by_cases hlevel : s.inputs.pg[rail] = (s.node (railNode rail)).good
  · rw [if_pos hlevel]
    exact lookAtPg_of_level hsampled hlevel
  rw [if_neg hlevel]
  by_cases hfilter : (s.node (railNode rail)).filter = none
  · rw [if_neg (not_not.2 hfilter)]
    by_cases hlen : s.active.policy.goodFilter = 0
    · rw [if_neg (not_not.2 hlen)]
      exact ⟨_, lookAtPg_of_at_once hsampled hlevel hfilter hlen, good_moved s (railNode rail) s.inputs.pg[rail]⟩
    · rw [if_pos hlen]
      exact lookAtPg_of_start hsampled hlevel hfilter hlen
  · rw [if_pos hfilter]
    exact lookAtPg_of_interval hlevel hfilter

/-! ### Every rail -/

/-- A node's live record after its filter has looked at its pin, with a good filter other than 0 (R23, R24). -/
def State.pgFiltered (s : State) (n : NodeId) (l : NodeLive) : NodeLive :=
  if h : n.val < 24 then
    if s.sampled ⟨n.val, h⟩ = false then l
    else if s.inputs.pg[n.val] = l.good then { l with filter := none }
    else if l.filter ≠ none then l
    else { l with filter := some ⟨s.inputs.pg[n.val], s.active.policy.goodFilter.toNat⟩ }
  else l

theorem filterStarted_eq (s : State) (n : NodeId) : s.filterStarted n = s.pgFiltered n (s.node n) := rfl

theorem lookAtPg_eq_setNode {s : State} (rail : RailId) (hlen : s.active.policy.goodFilter ≠ 0) :
    s.lookAtPg rail = s.setNode (railNode rail) (s.pgFiltered (railNode rail) (s.node (railNode rail))) := by
  have hrail : (railNode rail).val < 24 := rail.isLt
  unfold State.pgFiltered
  rw [dif_pos hrail]
  have hself : (⟨(railNode rail).val, hrail⟩ : RailId) = rail := rfl
  have hpg : s.inputs.pg[(railNode rail).val] = s.inputs.pg[rail] := rfl
  rw [hself, hpg]
  by_cases h : s.sampled rail = false
  · rw [if_pos h, setNode_node_same, lookAtPg_of_not_sampled h]
  have hsampled : s.sampled rail = true := by simpa using h
  rw [if_neg h]
  by_cases hlevel : s.inputs.pg[rail] = (s.node (railNode rail)).good
  · rw [if_pos hlevel]
    exact lookAtPg_of_level hsampled hlevel
  rw [if_neg hlevel]
  by_cases hfilter : (s.node (railNode rail)).filter = none
  · rw [if_neg (not_not.2 hfilter)]
    exact lookAtPg_of_start hsampled hlevel hfilter hlen
  · rw [if_pos hfilter, setNode_node_same, lookAtPg_of_interval hlevel hfilter]

/-- The rails' filters look one after the other, each at its own node. -/
theorem foldl_lookAtPg {s : State} (hlen : s.active.policy.goodFilter ≠ 0) (rails : List RailId) (t : State)
    (ht : { t with nodes := s.nodes } = s) : rails.foldl State.lookAtPg t =
      (rails.map railNode).foldl (fun u n => u.setNode n (s.pgFiltered n (u.node n))) t := by
  induction rails generalizing t with
  | nil => rfl
  | cons rail rails ih =>
    have hstep : t.lookAtPg rail = t.setNode (railNode rail) (s.pgFiltered (railNode rail) (t.node (railNode rail))) := by
      have hactive : t.active = s.active := (congrArg State.active ht :)
      rw [lookAtPg_eq_setNode rail (by rw [hactive]; exact hlen)]
      rw [← ht]
      rfl
    rw [List.map_cons, List.foldl_cons, List.foldl_cons, hstep]
    exact ih _ ht

theorem mem_rails_iff (n : NodeId) : n ∈ allRails.map railNode ↔ n.val < 24 := by
  rw [List.mem_map]
  constructor
  · rintro ⟨rail, -, rfl⟩
    exact rail.isLt
  · exact fun h => ⟨⟨n.val, h⟩, List.mem_finRange _, rfl⟩

theorem nodup_rails : (allRails.map railNode).Nodup :=
  (List.nodup_finRange 24).map fun _ _ h => Fin.ext (congrArg Fin.val h :)

theorem lookAtAllPg_filterStarted {s : State} (hlen : s.active.policy.goodFilter ≠ 0) :
    { s.lookAtAllPg with nodes := s.nodes } = s ∧ ∀ n, s.lookAtAllPg.node n = s.filterStarted n := by
  have hfold : s.lookAtAllPg = (allRails.map railNode).foldl (fun u n => u.setNode n (s.pgFiltered n (u.node n))) s :=
    foldl_lookAtPg hlen allRails s rfl
  obtain ⟨hframe, hnode⟩ := foldl_setNode s.pgFiltered (allRails.map railNode) nodup_rails s
  rw [hfold]
  refine ⟨hframe, fun n => (hnode n).trans ?_⟩
  by_cases hn : n.val < 24
  · rw [if_pos ((mem_rails_iff n).2 hn), filterStarted_eq]
  · rw [if_neg fun k => hn ((mem_rails_iff n).1 k), State.filterStarted, dif_neg hn]

/-- Settles O16: by whether the rail is sampled, the level of good, and the interval. -/
theorem pgChangeDrivesTheFilter : Obligations.PgChangeDrivesTheFilter := by
  refine ⟨fun s rail => ⟨sampled_iff s rail, lookAtPg_pgLooked s rail⟩, fun s => ⟨rfl, lookAtAllPg_filterStarted⟩,
    fun s rail high hp => ?_⟩
  have hpg : (s.withPin (.pgChange rail high)).inputs.pg[rail] = high := Vector.getElem_set_self _
  have hexec : exec (.pgChange rail high) s = .next ((s.withPin (.pgChange rail high)).lookAtPg rail).finish :=
    congrArg Host.Outcome.next (event_of_running (s := s.withPin (.pgChange rail high)) (fun t => t.lookAtPg rail) hp)
  intro n s'
  rw [hexec]
  refine ⟨fun h => ?_, fun h hlevel => ?_, fun h hlevel hfilter => ?_, fun h hlevel hfilter hlen => ?_,
    fun h hlevel hfilter hlen => ?_⟩
  · rw [lookAtPg_of_not_sampled h]
  · rw [lookAtPg_of_level h (hpg.trans hlevel)]
    rfl
  · rw [lookAtPg_of_interval (fun k => hlevel (hpg.symm.trans k)) hfilter]
  · rw [lookAtPg_of_start h (fun k => hlevel (hpg.symm.trans k)) hfilter hlen, hpg]
    rfl
  · refine ⟨_, by rw [lookAtPg_of_at_once h (fun k => hlevel (hpg.symm.trans k)) hfilter hlen], ?_⟩
    rw [hpg]
    exact good_moved (s.withPin (.pgChange rail high)) n high

end Sys2Proof.Machine

/-! # Bytes of the staged set

A staged byte reads as it was last written, and a write changes no other byte (R151, R177, R182). -/

namespace Sys2Proof

/-! ### Words -/

theorem getByte_putByte_same (w : Word) (high : Bool) (b : Byte) : getByte (putByte w high b) high = b := by
  cases high <;> apply BitVec.eq_of_getLsbD_eq <;> intro i hi <;>
    simp [getByte, putByte, Machine.getLsbD_word_append, hi, -BitVec.getLsbD_eq_getElem]

theorem getByte_putByte_other (w : Word) {high other : Bool} (b : Byte) (h : other ≠ high) :
    getByte (putByte w high b) other = getByte w other := by
  cases high <;> cases other <;> first | exact absurd rfl h | skip
  all_goals
    apply BitVec.eq_of_getLsbD_eq
    intro i hi
    simp [getByte, putByte, Machine.getLsbD_word_append, hi, -BitVec.getLsbD_eq_getElem]

/-! ### Records -/

theorem nodeByte_withByte_same (r : NodeRecord) {i : Nat} (h : i < 15) (b : Byte) : (r.withByte i b).byte i = b := by
  interval_cases i <;> first | rfl | simp [NodeRecord.byte, NodeRecord.withByte, getByte_putByte_same]

theorem nodeByte_withByte_other (r : NodeRecord) {i j : Nat} (h : j ≠ i) (b : Byte) : (r.withByte i b).byte j = r.byte j := by
  by_cases hi : i < 15
  case neg =>
    obtain ⟨k, rfl⟩ := Nat.exists_eq_add_of_le' (Nat.not_lt.1 hi)
    rfl
  by_cases hj : j < 15
  case neg =>
    obtain ⟨k, rfl⟩ := Nat.exists_eq_add_of_le' (Nat.not_lt.1 hj)
    rfl
  interval_cases i <;> interval_cases j <;>
    first
    | exact absurd rfl h
    | rfl
    | simp [NodeRecord.byte, NodeRecord.withByte, getByte_putByte_other]

theorem wakeByte_withByte_same (e : WakeEntry) {i : Nat} (h : i < 5) (b : Byte) : (e.withByte i b).byte i = b := by
  interval_cases i <;> rfl

theorem wakeByte_withByte_other (e : WakeEntry) {i j : Nat} (h : j ≠ i) (b : Byte) : (e.withByte i b).byte j = e.byte j := by
  by_cases hi : i < 5
  case neg =>
    obtain ⟨k, rfl⟩ := Nat.exists_eq_add_of_le' (Nat.not_lt.1 hi)
    rfl
  by_cases hj : j < 5
  case neg =>
    obtain ⟨k, rfl⟩ := Nat.exists_eq_add_of_le' (Nat.not_lt.1 hj)
    rfl
  interval_cases i <;> interval_cases j <;> first | exact absurd rfl h | rfl

theorem stageByte_withByte_same (g : Stage) {i : Nat} (h : i < 7) (b : Byte) : (g.withByte i b).byte i = b := by
  interval_cases i <;> first | rfl | simp [Stage.byte, Stage.withByte, getByte_putByte_same]

theorem stageByte_withByte_other (g : Stage) {i j : Nat} (h : j ≠ i) (b : Byte) : (g.withByte i b).byte j = g.byte j := by
  by_cases hi : i < 7
  case neg =>
    obtain ⟨k, rfl⟩ := Nat.exists_eq_add_of_le' (Nat.not_lt.1 hi)
    rfl
  by_cases hj : j < 7
  case neg =>
    obtain ⟨k, rfl⟩ := Nat.exists_eq_add_of_le' (Nat.not_lt.1 hj)
    rfl
  interval_cases i <;> interval_cases j <;>
    first
    | exact absurd rfl h
    | rfl
    | simp [Stage.byte, Stage.withByte, getByte_putByte_other]

theorem policyByte_withByte_same (p : Policy) {i : Nat} (h : i < 15) (b : Byte) : (p.withByte i b).byte i = b := by
  interval_cases i <;> rfl

theorem policyByte_withByte_other (p : Policy) {i j : Nat} (h : j ≠ i) (b : Byte) : (p.withByte i b).byte j = p.byte j := by
  by_cases hi : i < 15
  case neg =>
    obtain ⟨k, rfl⟩ := Nat.exists_eq_add_of_le' (Nat.not_lt.1 hi)
    rfl
  by_cases hj : j < 15
  case neg =>
    obtain ⟨k, rfl⟩ := Nat.exists_eq_add_of_le' (Nat.not_lt.1 hj)
    rfl
  interval_cases i <;> interval_cases j <;> first | exact absurd rfl h | rfl

/-! ### The plan's area -/

/-- The mapped bytes of a plan's area: the count, and the stages from 0x10 on. -/
theorem planByte_withByte_same (p : Plan) {i : Nat} (h : i = 0 ∨ (0x10 ≤ i ∧ i < 0x80)) (b : Byte) :
    (p.withByte i b).byte i = b := by
  rcases h with rfl | ⟨hlo, hhi⟩
  · rfl
  have hstage : (i - 0x10) / 7 < 16 := by omega
  have hzero : i ≠ 0 := by omega
  simp only [Plan.byte, Plan.withByte, hzero, Nat.not_lt.2 hlo, hstage, if_false, dif_pos, Vector.getElem_set_self]
  exact stageByte_withByte_same _ (Nat.mod_lt _ (by decide)) b

theorem planByte_withByte_other (p : Plan) {i j : Nat} (h : j ≠ i) (b : Byte) : (p.withByte i b).byte j = p.byte j := by
  unfold Plan.withByte
  split_ifs with hzero hlow hstage
  · subst hzero
    simp only [Plan.byte, h, if_false]
  · rfl
  · unfold Plan.byte
    dsimp only
    split_ifs with hj hj' hj''
    · rfl
    · rfl
    · by_cases hsame : (i - 0x10) / 7 = (j - 0x10) / 7
      · have hne : (j - 0x10) % 7 ≠ (i - 0x10) % 7 := by omega
        simp only [hsame, Vector.getElem_set_self]
        exact stageByte_withByte_other _ hne b
      · rw [Vector.getElem_set_ne _ _ hsame]
    · rfl
  · rfl

/-! ### The staged set -/

/-- The staged locations that may be written (R177). -/
def stagedLocation (a : Nat) : Prop :=
  (0x400 ≤ a ∧ a ≤ 0x5FF ∧ a % 16 ≠ 15) ∨ (0x6A0 ≤ a ∧ a ≤ 0x6EF) ∨ a = 0x780 ∨ (0x790 ≤ a ∧ a ≤ 0x7FF) ∨
    (0x820 ≤ a ∧ a ≤ 0x82E)

theorem stagedByte_withStagedByte_same (c : ConfigSet) {a : Nat} (h : stagedLocation a) (b : Byte) :
    Machine.stagedByte (c.withStagedByte a b) a = b := by
  unfold stagedLocation at h
  unfold ConfigSet.withStagedByte Machine.stagedByte
  split_ifs with h1 h2 h3 h4
  · simp only [Vector.getElem_set_self]
    exact nodeByte_withByte_same _ (by omega) b
  · simp only [Vector.getElem_set_self]
    exact wakeByte_withByte_same _ (Nat.mod_lt _ (by decide)) b
  · dsimp only
    exact planByte_withByte_same c.plan (by omega) b
  · dsimp only
    exact policyByte_withByte_same c.policy (by omega) b
  · omega

theorem stagedByte_withStagedByte_other (c : ConfigSet) {a a' : Nat} (h : a' ≠ a) (b : Byte) :
    Machine.stagedByte (c.withStagedByte a b) a' = Machine.stagedByte c a' := by
  unfold ConfigSet.withStagedByte
  split_ifs with h1 h2 h3 h4
  · unfold Machine.stagedByte
    dsimp only
    split_ifs with k1
    · by_cases hsame : (a - 0x0400) / 16 = (a' - 0x0400) / 16
      · simp only [hsame, Vector.getElem_set_self]
        exact nodeByte_withByte_other _ (by omega) b
      · rw [Vector.getElem_set_ne _ _ hsame]
    all_goals rfl
  · unfold Machine.stagedByte
    dsimp only
    split_ifs with k1 k2
    · rfl
    · by_cases hsame : (a - 0x06A0) / 5 = (a' - 0x06A0) / 5
      · simp only [hsame, Vector.getElem_set_self]
        exact wakeByte_withByte_other _ (by omega) b
      · rw [Vector.getElem_set_ne _ _ hsame]
    all_goals rfl
  · unfold Machine.stagedByte
    dsimp only
    split_ifs with k1 k2 k3
    · rfl
    · rfl
    · exact planByte_withByte_other _ (by omega) b
    all_goals rfl
  · unfold Machine.stagedByte
    dsimp only
    split_ifs with k1 k2 k3 k4
    · rfl
    · rfl
    · rfl
    · exact policyByte_withByte_other _ (by omega) b
    · rfl
  · rfl

end Sys2Proof

namespace Sys2Proof.Machine

/-! ### REGISTER_WRITE -/

theorem hasOwnRow_iff (p : Port) (addr : Word) : hasOwnRow p addr = true ↔ addr.toNat = 0x20 ∨
    (0x42 ≤ addr.toNat ∧ addr.toNat ≤ 0x45) ∨ (p = .host ∧ (addr.toNat = 0x100 ∨ addr.toNat = 0x101)) := by
  simp [hasOwnRow, ← BitVec.toNat_inj, or_assoc]

theorem isArgument_iff (addr : Word) : isArgument addr = true ↔ 0x10 ≤ addr.toNat ∧ addr.toNat ≤ 0x1F := by
  simp [isArgument]

theorem isStaged_iff (addr : Word) : isStaged addr = true ↔ stagedLocation addr.toNat := by
  simp [isStaged, stagedLocation, ← BitVec.toNat_inj, or_assoc, and_assoc]

theorem exec_registerWrite {s : State} {p : Port} {addr : Word} (v : Byte) (ht : s.takesByte p addr = true)
    (hrow : hasOwnRow p addr = false) :
    exec (.registerWrite p addr v) s = .next ((s.byteTaken p addr).writeLocation p addr v).finish := by
  have hne : addr ≠ 0x0020 := fun k => by
    rw [k] at hrow
    cases hrow
  exact (congrArg Host.Outcome.next (if_neg hne)).trans (exec_byteEvent_of_taken _ ht)

theorem writeLocation_of_argument {s : State} {p : Port} {addr : Word} {i : Fin 16} (v : Byte) (h : addr.toNat = 0x10 + i.val) :
    s.writeLocation p addr v = { s with
      mailbox := s.mailbox.set p { s.mailbox.get p with args := (s.mailbox.get p).args.set i.val v i.isLt } } := by
  have harg : isArgument addr = true := (isArgument_iff addr).2 (by omega)
  have hindex : Fin.ofNat 16 (addr.toNat - 0x0010) = i := by
    rw [h, Nat.add_sub_cancel_left]
    exact Fin.ofNat_val_eq_self i
  rw [State.writeLocation, if_pos harg]
  exact congrArg (fun k : Fin 16 => s.setMailbox p
    { s.mailbox.get p with args := (s.mailbox.get p).args.set k.val v k.isLt }) hindex

theorem writeLocation_of_staged {s : State} {addr : Word} (v : Byte) (harg : isArgument addr = false)
    (h : isStaged addr = true) :
    s.writeLocation .mgmt addr v = { s with staged := s.staged.withStagedByte addr.toNat v } := by
  rw [State.writeLocation, if_neg (by simp [harg]), if_pos ⟨rfl, h⟩]

theorem writeLocation_of_other {s : State} {p : Port} {addr : Word} (v : Byte) (hrow : hasOwnRow p addr = false)
    (harg : isArgument addr = false) (h : p = .host ∨ isStaged addr = false) :
    s.writeLocation p addr v = s.raise p .violation := by
  rw [← Bool.not_eq_true, hasOwnRow_iff] at hrow
  push Not at hrow
  obtain ⟨-, hcause, hpost⟩ := hrow
  have hne : ∀ a : Word, addr = a → addr.toNat = a.toNat := fun a k => congrArg BitVec.toNat k
  have hstaged : ¬(p = .mgmt ∧ isStaged addr = true) := by
    rintro ⟨hp, hst⟩
    rcases h with h | h
    · rw [h] at hp; cases hp
    · rw [h] at hst; cases hst
  rw [State.writeLocation, if_neg (by simp [harg]), if_neg hstaged, if_neg, if_neg, if_neg, if_neg]
  · rintro ⟨hp, k⟩
    exact (hpost hp).2 (hne _ k)
  · rintro ⟨hp, k⟩
    exact (hpost hp).1 (hne _ k)
  · rintro (k | k) <;> have := hne _ k <;> simp at this <;> omega
  · rintro (k | k) <;> have := hne _ k <;> simp at this <;> omega

/-- Settles O49: by the location. -/
theorem registerWritesStoreOrViolate : Obligations.RegisterWritesStoreOrViolate := by
  refine ⟨fun p addr => ⟨hasOwnRow_iff p addr, isArgument_iff addr, isStaged_iff addr⟩, fun s p addr v ht hrow => ?_⟩
  have hexec := exec_registerWrite v ht hrow
  refine ⟨fun i hi => ?_, fun harg hp hst => ?_, fun harg h => ?_⟩
  · rw [hexec, writeLocation_of_argument v hi]
    rfl
  · subst hp
    rw [hexec, writeLocation_of_staged v harg hst]
    exact ⟨_, rfl, stagedByte_withStagedByte_same _ ((isStaged_iff addr).1 hst) v,
      fun a ha => stagedByte_withStagedByte_other _ ha v⟩
  · rw [hexec, writeLocation_of_other v hrow harg h]
    rfl

end Sys2Proof.Machine

/-! # No command stops the part

Every command gives a next state with the same command queue, and one that cannot occur changes nothing (log 5, log 25). -/

namespace Sys2Proof.Machine

/-! ### The command queue -/

theorem stopEverything_pending (s : State) : s.stopEverything.pending = s.pending := by
  obtain ⟨b0, b1, n, h⟩ := cutStore_eq s.deenergizeAll
  unfold State.stopEverything
  rw [h]
  rfl

theorem Act.pending_eq {s t : State} (h : Act s t) : t.pending = s.pending := by
  cases h
  case event h => exact standing_pending h.standing_eq
  case stores =>
    obtain ⟨b0, b1, h, -⟩ := storeCommand_eq s
    rw [h]
  case stored crcMatches j _ =>
    obtain ⟨b0, b1, n, h⟩ := finishStore_eq s crcMatches j
    rw [h]
    rfl
  case standbyGoes vbat =>
    have hstop := stopEverything_pending s
    cases vbat <;> exact hstop
  case nrstFalls => exact stopEverything_pending s
  case standbyArrives adr1 adr0 _ =>
    unfold State.standbyArrives
    dsimp only
    split <;> rfl
  all_goals rfl

theorem Acts.pending_eq {s t : State} (h : Acts s t) : t.pending = s.pending :=
  h.keeps (P := fun u => u.pending = s.pending) (fun _ _ hact hs => hact.pending_eq.trans hs) rfl

theorem exec_next (c : Instr) (s : State) : ∃ t, exec c s = .next t := by
  cases c <;> exact ⟨_, rfl⟩

/-! ### Outside the running phase -/

theorem eventIf_of_not_running {s : State} (can : Bool) (f : State → State) (h : s.power ≠ .running) : s.eventIf can f = s := by
  cases can
  · rfl
  · exact event_of_not_running f h

theorem hostLive_running {s : State} (h : s.hostLive = true) : s.power = .running := ((hostLive_iff s).1 h).1

theorem takesByte_running {s : State} {p : Port} {addr : Word} (h : s.takesByte p addr = true) : s.power = .running := by
  cases p
  · exact hostLive_running ((takesByte_host_iff s addr).1 h).1
  · exact ((takesByte_mgmt_iff s addr).1 h).1

theorem takesRead_running {s : State} {p : Port} {addr : Word} (h : s.takesRead p addr = true) : s.power = .running := by
  cases p
  · exact hostLive_running ((takesRead_host_iff s addr).1 h).1
  · simp only [State.takesRead, Bool.and_eq_true, beq_iff_eq] at h
    exact h.1

theorem byteEvent_of_not_running {s : State} (p : Port) (addr : Word) (f : State → State) (h : s.power ≠ .running) :
    s.byteEvent p addr f = s :=
  byteEvent_of_not_taken f (by rw [← Bool.not_eq_true]; exact fun k => h (takesByte_running k))

theorem commandByte_of_not_running {s : State} (p : Port) (code : Byte) (body : State → State) (h : s.power ≠ .running) :
    s.commandByte p code body = s :=
  byteEvent_of_not_running p 0x0020 _ h

theorem commandByte_of_not_taken {s : State} {p : Port} (code : Byte) (body : State → State)
    (h : s.takesByte p 0x0020 = false) : s.commandByte p code body = s :=
  byteEvent_of_not_taken _ h

theorem exec_of_not_running {c : Instr} {s : State} (h : s.power ≠ .running) (hc : c.supplies = false) :
    exec c s = .next (s.withPin c) := by
  cases c
  case pgChange rail high => exact congrArg Host.Outcome.next (event_of_not_running (s := s.withPin (.pgChange rail high)) _ h)
  case pbtnChange high => exact congrArg Host.Outcome.next (event_of_not_running (s := s.withPin (.pbtnChange high)) _ h)
  case wakeLineChange line high =>
    exact congrArg Host.Outcome.next (event_of_not_running (s := s.withPin (.wakeLineChange line high)) _ h)
  case postLowByte => exact congrArg Host.Outcome.next (byteEvent_of_not_running .host 0x0100 _ h)
  case post => exact congrArg Host.Outcome.next (byteEvent_of_not_running .host 0x0101 _ h)
  case causeAcknowledge p high v => exact congrArg Host.Outcome.next (byteEvent_of_not_running p _ _ h)
  case maskWrite p high v => exact congrArg Host.Outcome.next (byteEvent_of_not_running p _ _ h)
  case registerWrite p addr v =>
    refine congrArg Host.Outcome.next ?_
    split
    · exact commandByte_of_not_running p v _ h
    · exact byteEvent_of_not_running p addr _ h
  case forbiddenRead p addr =>
    exact congrArg Host.Outcome.next (readEvent_of_not_taken _ (by rw [← Bool.not_eq_true]; exact fun k => h (takesRead_running k)))
  case busTimeout sent => exact congrArg Host.Outcome.next (if_neg h)
  case transferStop sent => exact congrArg Host.Outcome.next (if_neg h)
  case registerPointerSet addr => exact congrArg Host.Outcome.next (if_neg h)
  case goodTaken | goodFalls | riseTimerExpiry | settleHoldExpiry | fallTimerExpiry | recycleHoldExpiry | press | release |
      longPress | idleTimerExpiry | wakeDebounceExpiry | deadlineExpiry | storeCompletion =>
    exact congrArg Host.Outcome.next (eventIf_of_not_running _ _ h)
  all_goals first
    | (cases hc; done)
    | exact congrArg Host.Outcome.next (commandByte_of_not_running _ _ _ h)

/-- A byte that does not reach the part does nothing. -/
theorem exec_of_byte_not_taken {c : Instr} {s : State} {p : Port} {addr : Word} (hat : c.byteAt = some (p, addr))
    (h : s.takesByte p addr = false) : exec c s = .next s := by
  cases c
  case postLowByte => cases hat; exact congrArg Host.Outcome.next (byteEvent_of_not_taken _ h)
  case post => cases hat; exact congrArg Host.Outcome.next (byteEvent_of_not_taken _ h)
  case causeAcknowledge => cases hat; exact congrArg Host.Outcome.next (byteEvent_of_not_taken _ h)
  case maskWrite => cases hat; exact congrArg Host.Outcome.next (byteEvent_of_not_taken _ h)
  case registerWrite q a v =>
    cases hat
    refine congrArg Host.Outcome.next ?_
    split
    · next haddr => exact commandByte_of_not_taken v _ (haddr ▸ h)
    · exact byteEvent_of_not_taken _ h
  all_goals first
    | (cases hat; done)
    | (cases hat; exact congrArg Host.Outcome.next (commandByte_of_not_taken _ _ h))

/-- Settles O3: every command is a chain of acts, and none touches the queue. -/
theorem commandsNeverStopThePart : Obligations.CommandsNeverStopThePart := by
  refine ⟨fun c s => ?_, fun c s => exec_of_not_running, fun c s p addr => exec_of_byte_not_taken, fun s p addr h =>
    congrArg Host.Outcome.next (readEvent_of_not_taken _ h)⟩
  obtain ⟨t, ht⟩ := exec_next c s
  exact ⟨t, ht, (acts_exec ht).pending_eq⟩

end Sys2Proof.Machine

/-! # The copy of a COMMIT across the wake records

What the reactions and looks of an event leave unchanged, and COMMIT as a whole (R124, R132, R154, R156, R157). -/

namespace Sys2Proof.Machine

/-! ### What an event's reactions and looks leave unchanged -/

/-- `s` with all blanked that the joint reaction, a good event or a wake request may change. -/
def State.apart (s : State) : State :=
  { s.outside with
    faults := FaultUnit.start, button := Button.start, causes := ⟨0, 0⟩, retained := Retained.defaults .standbyPower }

theorem apart_of_outside {s t : State} (h : t.outside = s.outside) : t.apart = s.apart :=
  congrArg (fun u : State => { u with
    faults := FaultUnit.start, button := Button.start, causes := ⟨0, 0⟩, retained := Retained.defaults .standbyPower }) h

theorem apart_of_sameButNodes {s t : State} (h : s.sameButNodes t) : t.apart = s.apart := by
  obtain ⟨nodes, budget, ready, rfl⟩ := sameButNodes_exists h
  rfl

theorem logFault_apart (s : State) (kind : FaultKind) (node : Option NodeId) (stage : Option Nat) (action : FaultAction) :
    (s.logFault kind node stage action).apart = s.apart := by
  rw [logFault_frame]
  rfl

theorem enterHalted_apart (s : State) : s.enterHalted.apart = s.apart := by
  rw [enterHalted_eq_haltedFrom]
  exact (apart_of_outside (flushQueue_outside s.deenergizeAll) :)

theorem faultOnPolicy_apart (s : State) (kind : FaultKind) (n : NodeId) : (s.faultOnPolicy kind n).apart = s.apart := by
  rcases actionAt_cases s n with h | h | ⟨h, -⟩
  · rw [faultOnPolicy_of_shed kind h]
    exact (apart_of_sameButNodes (shed_sameButNodes _ n)).trans (logFault_apart s kind _ _ _)
  · rw [faultOnPolicy_of_tripped kind h]
    exact (apart_of_outside (startTrip_outside _ _)).trans
      ((apart_of_sameButNodes (shed_sameButNodes _ n)).trans (logFault_apart s kind _ _ _))
  · rw [faultOnPolicy_of_halted kind h]
    exact (enterHalted_apart _).trans ((apart_of_sameButNodes (fail_sameButNodes _ n)).trans (logFault_apart s kind _ _ _))

theorem withGood_apart (s : State) (n : NodeId) (good : Bool) : (s.withGood n good).apart = s.apart := rfl

theorem backfeed_apart (s : State) (n : NodeId) : (s.backfeed n).apart = s.apart := by
  unfold State.backfeed
  split
  · rfl
  · exact logFault_apart s _ _ _ _

theorem takeGood_apart (s : State) (n : NodeId) : (s.takeGood n).apart = s.apart := by
  rcases takeGood_cases s n with h | ⟨-, h⟩ | h <;> rw [h]
  · rfl
  · exact (apart_of_sameButNodes (enterSettling_sameButNodes (s.withGood n true) n)).trans (withGood_apart s n true)
  · exact backfeed_apart (s.withGood n true) n

theorem loseGood_apart (s : State) (n : NodeId) : (s.loseGood n).apart = s.apart := by
  rcases loseGood_cases s n with h | ⟨-, h⟩ | ⟨-, h⟩ <;> rw [h]
  · rfl
  · exact faultOnPolicy_apart (s.withGood n false) _ n
  · exact (apart_of_sameButNodes (toOff_sameButNodes (s.withGood n false) n)).trans (withGood_apart s n false)

theorem finish_apart (s : State) : s.finish.apart = s.apart := apart_of_outside (finish_outside s)

/-- One PG filter's look: nothing, a filter interval, or good moved at once with the reaction to it. -/
theorem lookAtPg_cases (s : State) (rail : RailId) : s.lookAtPg rail = s ∨
    (∃ i, s.lookAtPg rail = s.setNode (railNode rail) { s.node (railNode rail) with filter := i }) ∨
    s.lookAtPg rail = (s.takeGood (railNode rail)).finish ∨ s.lookAtPg rail = (s.loseGood (railNode rail)).finish := by
  by_cases h : s.sampled rail = false
  · exact .inl (lookAtPg_of_not_sampled h)
  have hsampled : s.sampled rail = true := by simpa using h
  by_cases hlevel : s.inputs.pg[rail] = (s.node (railNode rail)).good
  · exact .inr (.inl ⟨none, lookAtPg_of_level hsampled hlevel⟩)
  by_cases hfilter : (s.node (railNode rail)).filter = none
  · by_cases hlen : s.active.policy.goodFilter = 0
    · rw [lookAtPg_of_at_once hsampled hlevel hfilter hlen]
      cases s.inputs.pg[rail]
      · exact .inr (.inr (.inr rfl))
      · exact .inr (.inr (.inl rfl))
    · exact .inr (.inl ⟨_, lookAtPg_of_start hsampled hlevel hfilter hlen⟩)
  · exact .inl (lookAtPg_of_interval hlevel hfilter)

theorem lookAtPg_apart (s : State) (rail : RailId) : (s.lookAtPg rail).apart = s.apart := by
  rcases lookAtPg_cases s rail with h | ⟨i, h⟩ | h | h <;> rw [h]
  · rfl
  · exact (finish_apart _).trans (takeGood_apart s _)
  · exact (finish_apart _).trans (loseGood_apart s _)

theorem lookAtAllPg_apart (s : State) : s.lookAtAllPg.apart = s.apart := by
  unfold State.lookAtAllPg
  generalize allRails = rails
  induction rails generalizing s with
  | nil => rfl
  | cons rail rails ih => exact (ih _).trans (lookAtPg_apart s rail)

theorem notifyWake_apart (s : State) (acting : List (Fin 16)) : (s.notifyWake acting).apart = s.apart := by
  rw [notifyWake_eq]
  rfl

theorem actOn_apart (s : State) (acting : List (Fin 16)) : (s.actOn acting).apart = s.apart := by
  unfold State.actOn
  cases highest (fun e => (s.wakeEntry e).targetOf) acting with
  | none => exact notifyWake_apart s acting
  | some T => exact (apart_of_outside (arrive_outside _ _)).trans (notifyWake_apart s acting)

/-! ### Wake records across a COMMIT -/

/-- A wake entry's record after COMMIT has stopped the watching that R132 stops. -/
def State.carriedWake (s : State) (old : ConfigSet) (e : Fin 16) (l : WakeLive) : WakeLive :=
  if rewired old.wake[e] (s.wakeEntry e) = true then WakeLive.start
  else if (s.wakeEntry e).enabled = true then l
  else { l with level := none, filter := none }

theorem withWakes_active (s : State) (w : Fin 16 → WakeLive) : (s.withWakes w).active = s.active := rfl

theorem carryWake_withWakes (s : State) (old : ConfigSet) (w : Fin 16 → WakeLive) (e : Fin 16) :
    (s.withWakes w).carryWake old e = s.withWakes (Function.update w e (s.carriedWake old e (w e))) := by
  unfold State.carryWake State.carriedWake
  simp only [withWakes_wakeLive, withWakes_wakeEntry, setWake_withWakes]
  split_ifs
  · rfl
  · rw [Function.update_eq_self]
  · rfl

/-- The wake records after a COMMIT, and the entries that match and act at once (R124, R132). -/
theorem carryWakes_eq (s : State) (old : ConfigSet) : ∃ acting,
    (∀ f, f ∈ acting ↔ startsWatching old s.active f = true ∧ (s.wakeEntry f).levelSense = true ∧ (s.wakeEntry f).debounce = 0 ∧
      s.lineLevel (s.wakeEntry f) = (s.wakeEntry f).matchesHigh ∧ (s.carriedWake old f (s.wakeLive f)).pending = false ∧
      s.plat.phase ≠ .halted ∧ (s.wakeEntry f).armedAt s.plat.reference = true) ∧
    s.carryWakes old = (s.withWakes fun f => if startsWatching old s.active f = true then
      (s.withWakes fun e => s.carriedWake old e (s.wakeLive e)).watchedAnew f
      else s.carriedWake old f (s.wakeLive f)).actOn acting := by
  have hfold := foldl_wakes (op := fun t e => t.carryWake old e) (s := s) (s.carriedWake old)
    (fun w e => carryWake_withWakes s old w e) nodup_allEntries
  have hall : (fun f => if f ∈ allEntries then s.carriedWake old f (s.wakeLive f) else s.wakeLive f) =
      fun f => s.carriedWake old f (s.wakeLive f) := funext fun f => if_pos (List.mem_finRange f)
  rw [hall] at hfold
  unfold State.carryWakes
  dsimp only at hfold ⊢
  rw [hfold]
  obtain ⟨acting, hacting, hwatch⟩ := startWatching_eq (s.withWakes fun f => s.carriedWake old f (s.wakeLive f))
    (nodup_filter_allEntries (startsWatching old s.active))
  refine ⟨acting, fun f => ?_, ?_⟩
  · rw [hacting, mem_filter_allEntries, withWakes_wakeLive]
    rfl
  · rw [withWakes_active, hwatch, withWakes_withWakes]
    refine congrArg (State.actOn · acting) (congrArg s.withWakes (funext fun f => ?_))
    simp only [mem_filter_allEntries, withWakes_wakeLive]

/-- What the copy's reaction leaves of the set, the lines, the clock and the wake records. -/
structure State.Copied (s u : State) : Prop where
  active : u.active = s.staged
  lines : u.inputs.wk = s.inputs.wk
  uptime : u.uptime = s.uptime
  wakes : u.wakes = s.wakes

theorem rewatched_of_copied {s u : State} (h : s.Copied u) (f : Fin 16) :
    (if startsWatching s.active u.active f = true then
      (u.withWakes fun e => u.carriedWake s.active e (u.wakeLive e)).watchedAnew f
      else u.carriedWake s.active f (u.wakeLive f)) = s.rewatched f := by
  have hentry : u.wakeEntry f = s.staged.wake[f] := by rw [← h.active]; rfl
  have hline : ∀ e, u.lineLevel e = s.lineLevel e := fun e => by unfold State.lineLevel; rw [h.lines]
  have hlive : u.wakeLive f = s.wakeLive f := by unfold State.wakeLive; rw [h.wakes]
  have hstarts : startsWatching s.active u.active f = s.startsAt f := by rw [h.active]; rfl
  have hcarried : u.carriedWake s.active f (u.wakeLive f) = if s.rewires f = true then WakeLive.start
      else if s.staged.wake[f].enabled = true then s.wakeLive f
      else { s.wakeLive f with level := none, filter := none } := by
    unfold State.carriedWake
    rw [hentry, hlive]
    rfl
  rw [hstarts]
  unfold State.watchedAnew State.rewatched State.matchesAtOnce
  simp only [withWakes_wakeLive, withWakes_wakeEntry, withWakes_lineLevel, hcarried, hentry, hline]
  have huptime : (u.withWakes fun e => u.carriedWake s.active e (u.wakeLive e)).uptime = s.uptime := h.uptime
  rw [huptime]
  have hstart : s.startsAt f = (s.staged.wake[f].enabled && (s.rewires f || !s.active.wake[f].enabled)) := rfl
  generalize s.startsAt f = starts at hstart ⊢
  generalize s.lineLevel s.staged.wake[f] = line
  generalize s.staged.wake[f] = entry at hstart ⊢
  cases hen : entry.enabled
  · rw [hen, Bool.false_and] at hstart
    subst hstart
    cases s.rewires f <;> simp [WakeLive.start]
  rw [hen, Bool.true_and] at hstart
  cases starts
  · obtain ⟨hre, -⟩ := Bool.or_eq_false_iff.1 hstart.symm
    simp [hre]
  · by_cases hsense : entry.levelSense = true
    · by_cases hl : line = entry.matchesHigh
      · by_cases hd : entry.debounce = 0
        · simp [hsense, hl, hd]
        · cases s.rewires f <;> simp [hsense, hl, hd, WakeLive.start]
      · cases s.rewires f <;> simp [hsense, hl, WakeLive.start]
    · cases s.rewires f <;> simp [hsense, WakeLive.start]

theorem carriedWake_pending_iff (s : State) (old : ConfigSet) (e : Fin 16) (l : WakeLive) :
    (s.carriedWake old e l).pending = false ↔ rewired old.wake[e] (s.wakeEntry e) = true ∨ l.pending = false := by
  unfold State.carriedWake
  split_ifs with h h'
  · exact ⟨fun _ => .inl h, fun _ => rfl⟩
  · exact ⟨.inr, fun k => k.resolve_left h⟩
  · exact ⟨.inr, fun k => k.resolve_left h⟩

theorem matchesAtOnce_iff (s : State) (e : Fin 16) : s.matchesAtOnce e = true ↔ s.startsAt e = true ∧
    s.staged.wake[e].levelSense = true ∧ s.staged.wake[e].debounce = 0 ∧
    s.lineLevel s.staged.wake[e] = s.staged.wake[e].matchesHigh := by
  unfold State.matchesAtOnce
  generalize s.staged.wake[e] = entry
  simp [and_assoc]

theorem carryWakes_of_copied {s u : State} (h : s.Copied u) : ∃ acting,
    (∀ f, f ∈ acting ↔ s.matchesAtOnce f = true ∧ (s.rewires f = true ∨ (s.wakeLive f).pending = false) ∧
      u.plat.phase ≠ .halted ∧ (s.staged.wake[f]).armedAt u.plat.reference = true) ∧
    u.carryWakes s.active = (u.withWakes s.rewatched).actOn acting := by
  obtain ⟨acting, hacting, hcarry⟩ := carryWakes_eq u s.active
  have hrecords := funext (rewatched_of_copied h)
  rw [hrecords] at hcarry
  refine ⟨acting, fun f => ?_, hcarry⟩
  have hentry : u.wakeEntry f = s.staged.wake[f] := by rw [← h.active]; rfl
  have hline : ∀ e, u.lineLevel e = s.lineLevel e := fun e => by unfold State.lineLevel; rw [h.lines]
  have hlive : u.wakeLive f = s.wakeLive f := by unfold State.wakeLive; rw [h.wakes]
  have hstarts : startsWatching s.active u.active f = s.startsAt f := by rw [h.active]; rfl
  have hrewired : rewired s.active.wake[f] s.staged.wake[f] = s.rewires f := rfl
  rw [hacting, carriedWake_pending_iff, hentry, hline, hlive, hstarts, hrewired, matchesAtOnce_iff]
  tauto

end Sys2Proof.Machine

/-! # COMMIT

The checks in their order, and the accepted copy with all that follows it (R154, R156, R157). -/

namespace Sys2Proof.Machine

/-! ### The checks -/

theorem find_allNodes_eq_some {p : NodeId → Bool} {n : NodeId} (h : p n = true) (hfirst : ∀ m, m < n → p m = false) :
    allNodes.find? p = some n := by
  refine List.find?_eq_some_iff_getElem.2 ⟨h, n.val, by simp [allNodes], by simp [allNodes], fun j hj => ?_⟩
  have hlt : j < 32 := hj.trans n.isLt
  have hget : allNodes[j]'(by simpa [allNodes] using hlt) = ⟨j, hlt⟩ := by simp [allNodes]
  rw [hget, hfirst ⟨j, hlt⟩ hj]
  rfl

theorem memberConflict_of_differs {a b : ConfigSet} {L : Level} {n : NodeId}
    (h : (a.node n).memberOf L ≠ (b.node n).memberOf L)
    (hfirst : ∀ m, m < n → (a.node m).memberOf L = (b.node m).memberOf L) :
    a.memberConflict b L = some ⟨.node, n.val, .members⟩ := by
  unfold ConfigSet.memberConflict
  rw [find_allNodes_eq_some (n := n) (by simpa using h) (fun m hm => by simpa using hfirst m hm)]
  rfl

theorem memberConflict_of_same {a b : ConfigSet} {L : Level} (h : ∀ n, (a.node n).memberOf L = (b.node n).memberOf L) :
    a.memberConflict b L = none := by
  unfold ConfigSet.memberConflict
  rw [List.find?_eq_none.2 fun n _ => by simpa using h n]
  rfl

theorem commitCommand_of_busy {s : State} (h : s.plat.phase ≠ .settled) :
    s.commitCommand = s.finished .mgmt .busy noDetail := by
  rw [State.commitCommand, if_pos h, reply_eq_finished]

theorem commitCommand_of_failure {s : State} (h : s.plat.phase = .settled) {f : Failure} (hf : s.staged.failure = some f) :
    s.commitCommand = s.finished .mgmt .validation ⟨f.part.code, BitVec.ofNat 8 f.index, f.reason.code⟩ := by
  rw [State.commitCommand, if_neg (not_not.2 h), hf]
  rfl

theorem commitCommand_of_conflict {s : State} (h : s.plat.phase = .settled) (hf : s.staged.failure = none) {n : NodeId}
    (hn : s.active.memberConflict s.staged s.plat.settled = some ⟨.node, n.val, .members⟩) :
    s.commitCommand = s.finished .mgmt .liveConflict ⟨0, BitVec.ofNat 8 n.val, 9⟩ := by
  rw [State.commitCommand, if_neg (not_not.2 h), hf]
  dsimp only
  rw [hn]
  rfl

theorem commitCommand_of_accepted {s : State} (h : s.plat.phase = .settled) (hf : s.staged.failure = none)
    (hn : s.active.memberConflict s.staged s.plat.settled = none) :
    s.commitCommand = s.adoptStaged.finished .mgmt .ok noDetail := by
  rw [State.commitCommand, if_neg (not_not.2 h), hf]
  dsimp only
  rw [hn]
  exact reply_eq_finished _ _ _

/-! ### What the copy keeps -/

/-- The fields that an accepted COMMIT keeps, and the set in force. -/
def State.keptByCommit (s : State) : ConfigSet × ConfigSet × Bank × Bank × Bool × Option StoreJob × Inputs × Bool × Dword ×
    PerPort Word × List ProgressEntry × Word × Nat × PerPort Mailbox :=
  (s.active, s.staged, s.bank0, s.bank1, s.imageBad, s.storeJob, s.inputs, s.hostLock, s.uptime, s.masks, s.monitor.log,
    s.monitor.postCount, s.monitor.recoveryCount, s.mailbox)

theorem keptByCommit_of_outside {s t : State} (h : t.outside = s.outside) : t.keptByCommit = s.keptByCommit :=
  congrArg (f := State.keptByCommit) (a₁ := t.outside) (a₂ := s.outside) h

theorem keptByCommit_of_apart {s t : State} (h : t.apart = s.apart) : t.keptByCommit = s.keptByCommit :=
  congrArg (f := State.keptByCommit) (a₁ := t.apart) (a₂ := s.apart) h

theorem keptByCommit_of_carried {s a : State} (h : s.carried a) :
    a.keptByCommit = ({ s with active := s.staged } : State).keptByCommit := by
  obtain ⟨hframe, hactive, -, -, -, hmonitor, -⟩ := h
  have hlog : a.monitor.log = s.monitor.log ∧ a.monitor.postCount = s.monitor.postCount ∧
      a.monitor.recoveryCount = s.monitor.recoveryCount := by
    rw [hmonitor]
    split <;> exact ⟨rfl, rfl, rfl⟩
  obtain ⟨hlog, hpost, hrecovery⟩ := hlog
  have hkept : ({ a with active := s.staged, monitor := s.monitor } : State).keptByCommit =
      ({ s with active := s.staged } : State).keptByCommit :=
    congrArg (fun u : State => ({ u with active := s.staged } : State).keptByCommit) hframe
  rw [← hkept]
  unfold State.keptByCommit
  rw [hactive, hlog, hpost, hrecovery]

theorem withWakes_frame_of {u : State} {wakes : Vector WakeLive 16} (h : u.wakes = wakes) (w : Fin 16 → WakeLive) :
    { u.withWakes w with wakes := wakes } = u := by
  subst h
  exact withWakes_frame u w

theorem copied_of_carried {s a u : State} (hc : s.carried a) (hout : u.outside = a.outside) : s.Copied u := by
  obtain ⟨hframe, hactive, -⟩ := hc
  exact ⟨(congrArg State.active hout :).trans hactive,
    (congrArg (fun u => u.inputs.wk) hout :).trans (congrArg (fun u => u.inputs.wk) hframe :),
    (congrArg State.uptime hout :).trans (congrArg State.uptime hframe :),
    (congrArg State.wakes hout :).trans (congrArg State.wakes hframe :)⟩

/-- What stands after the copy's reaction, the wake records and the looks. -/
theorem kept_of_rewatched {s a u v : State} {w : Fin 16 → WakeLive} (hc : s.carried a) (hout : u.outside = a.outside)
    (hapart : v.apart = (u.withWakes w).apart) :
    v.keptByCommit = ({ s with active := s.staged } : State).keptByCommit ∧ v.wakes = Vector.ofFn w := by
  have hkept : (u.withWakes w).keptByCommit = u.keptByCommit := by
    unfold State.withWakes
    rfl
  exact ⟨(keptByCommit_of_apart hapart).trans (hkept.trans ((keptByCommit_of_outside hout).trans (keptByCommit_of_carried hc))),
    (congrArg State.wakes hapart :)⟩

/-- What stands once the command has finished as well. -/
theorem kept_of_finished {s v t : State} {w : Fin 16 → WakeLive} {d : Detail}
    (hkept : v.keptByCommit = ({ s with active := s.staged } : State).keptByCommit) (hwakes : v.wakes = Vector.ofFn w)
    (hout : t.outside = (v.finished .mgmt .ok d).outside) : t.active = s.staged ∧ t.staged = s.staged ∧ t.bank0 = s.bank0 ∧
      t.bank1 = s.bank1 ∧ t.imageBad = s.imageBad ∧ t.storeJob = s.storeJob ∧ t.inputs = s.inputs ∧
      t.hostLock = s.hostLock ∧ t.uptime = s.uptime ∧ t.masks = s.masks ∧ t.monitor.log = s.monitor.log ∧
      t.monitor.postCount = s.monitor.postCount ∧ t.monitor.recoveryCount = s.monitor.recoveryCount ∧
      t.mailbox.mgmt = { s.mailbox.mgmt with status := .done, result := .ok, detail := d } ∧
      t.mailbox.host = s.mailbox.host ∧ ∀ e : Fin 16, t.wakeLive e = w e := by
  have htkept : t.keptByCommit = (v.finished .mgmt .ok d).keptByCommit := keptByCommit_of_outside hout
  have htwakes : t.wakes = v.wakes := (congrArg State.wakes hout :)
  simp only [State.keptByCommit, State.finished, Prod.mk.injEq] at hkept htkept
  obtain ⟨h1, h2, h3, h4, h5, h6, h7, h8, h9, h10, h11, h12, h13, h14⟩ := hkept
  obtain ⟨k1, k2, k3, k4, k5, k6, k7, k8, k9, k10, k11, k12, k13, k14⟩ := htkept
  refine ⟨k1.trans h1, k2.trans h2, k3.trans h3, k4.trans h4, k5.trans h5, k6.trans h6, k7.trans h7, k8.trans h8, k9.trans h9,
    k10.trans h10, k11.trans h11, k12.trans h12, k13.trans h13, ?_, ?_, fun e => ?_⟩
  · rw [k14, h14]
    rfl
  · rw [k14, h14]
    rfl
  · unfold State.wakeLive
    rw [htwakes, hwakes]
    simp

/-- The copy, then the wake records with what acts on them, each with its reaction, then the PG looks (R157). -/
theorem adoptStaged_cases (s : State) : ∃ acting,
    (∀ f, f ∈ acting ↔ s.matchesAtOnce f = true ∧ (s.rewires f = true ∨ (s.wakeLive f).pending = false) ∧
      s.copied.finish.plat.phase ≠ .halted ∧ (s.staged.wake[f]).armedAt s.copied.finish.plat.reference = true) ∧
    s.adoptStaged = (((s.copied.finish.withWakes s.rewatched).actOn acting).finish).lookAtAllPg := by
  obtain ⟨acting, hacting, hcarry⟩ := carryWakes_of_copied (copied_of_carried (copied_carried s) (finish_outside _))
  exact ⟨acting, hacting, by rw [adoptStaged_eq, hcarry]⟩

/-- Settles O36: by the checks; the accepted copy is the copy proper, the wake records and the PG looks, each with its reaction. -/
theorem commitCopiesOnlyAValidUnconflictedSet : Obligations.CommitCopiesOnlyAValidUnconflictedSet := by
  intro s ht
  have hexec : exec (.commit .mgmt) s = .next (s.commanded .mgmt 0x10).commitCommand.finish :=
    congrArg Host.Outcome.next (mgmtCommand_of_takesCommand 0x10 _ ht)
  rw [hexec]
  refine ⟨fun hp => ?_, fun hp f hf => ?_, fun hp hf n hn hfirst => ?_, fun hp hf hsame => ?_⟩
  · rw [commitCommand_of_busy (s := s.commanded .mgmt 0x10) hp]
    rfl
  · rw [commitCommand_of_failure (s := s.commanded .mgmt 0x10) hp hf]
    rfl
  · rw [commitCommand_of_conflict (s := s.commanded .mgmt 0x10) hp hf (memberConflict_of_differs hn hfirst)]
    rfl
  rw [commitCommand_of_accepted (s := s.commanded .mgmt 0x10) hp hf (memberConflict_of_same hsame)]
  obtain ⟨acting, hacting, hadopt⟩ := adoptStaged_cases (s.commanded .mgmt 0x10)
  have hrewatched : (s.commanded .mgmt 0x10).rewatched = s.rewatched := rfl
  rw [hrewatched] at hadopt
  have hcarried := copied_carried (s.commanded .mgmt 0x10)
  generalize (s.commanded .mgmt 0x10).adoptStaged = v at hadopt ⊢
  generalize (s.commanded .mgmt 0x10).copied = a at hcarried hacting hadopt
  have hout := finish_outside a
  have hapart : v.apart = (a.finish.withWakes s.rewatched).apart := by
    rw [hadopt]
    exact (lookAtAllPg_apart _).trans ((finish_apart _).trans (actOn_apart _ acting))
  obtain ⟨hkept, hwakes⟩ := kept_of_rewatched hcarried hout hapart
  have hsame : a.finish.wakes = s.wakes := (copied_of_carried hcarried hout).wakes
  have hfinished := kept_of_finished hkept hwakes (finish_outside (v.finished .mgmt .ok noDetail))
  obtain ⟨h1, h2, h3, h4, h5, h6, h7, h8, h9, h10, h11, h12, h13, h14, h15, h16⟩ := hfinished
  exact ⟨_, rfl, h1, h2, h3, h4, h5, h6, h7, h8, h9, h10, h11, h12, h13, h14, h15, h16, a, a.finish.withWakes s.rewatched,
    (a.finish.withWakes s.rewatched).actOn acting, hcarried, withWakes_frame_of hsame s.rewatched,
    withWakes_wakeLive a.finish s.rewatched, actOn_actedOn _ acting hacting, by rw [hadopt]⟩

end Sys2Proof.Machine

/-! # Layouts and field readings

The bytes of each record, and which byte or bit of a record the blocks read as which field (R2, R5, R121, R137, R152, R182). -/

namespace Sys2Proof.Machine

theorem recordLayouts_holds : recordLayouts := by
  intro r e g q y
  refine ⟨rfl, rfl, rfl, rfl, rfl, rfl, rfl, fun v hv => ?_, ?_, fun t ht => ?_⟩
  · rw [Request.byte, hv]
    rfl
  · rw [Request.byte]
    cases q.recycle <;> cases q.alternate <;> cases q.tag.isSome <;> rfl
  · rw [Request.byte, ht]
    rfl

theorem fieldCodes_holds : fieldCodes := ⟨rfl, rfl, rfl, rfl, rfl, rfl, rfl, rfl, rfl⟩

/-! ### Node records -/

theorem nodeOfByte_eq_some {b : Byte} {n : NodeId} : nodeOfByte b = some n ↔ b.toNat = n.val := by
  unfold nodeOfByte
  split
  next h => rw [Option.some_inj, Fin.ext_iff]
  next h =>
    have := n.isLt
    exact ⟨nofun, fun heq => absurd heq (by omega)⟩

theorem used_iff (r : NodeRecord) : r.used = true ↔ r.level = 1 ∨ r.level = 2 ∨ r.level = 3 := by
  unfold NodeRecord.used NodeRecord.levelOf levelOfByte
  grind

theorem senses_iff (r : NodeRecord) (n : NodeId) : r.senses n = true ↔ n.val < 24 ∧ r.flags.getLsbD 0 = false := by
  simp [NodeRecord.senses, isGate, NodeRecord.timed]

theorem mem_prereqs (r : NodeRecord) (n : NodeId) : n ∈ r.prereqs ↔ ∃ i : Fin 4, r.slots[i].toNat = n.val := by
  unfold NodeRecord.prereqs
  rw [List.mem_filterMap]
  constructor
  · rintro ⟨b, hb, hn⟩
    obtain ⟨i, hi, rfl⟩ := Vector.mem_iff_getElem.1 (Vector.mem_toList_iff.1 hb)
    exact ⟨⟨i, hi⟩, nodeOfByte_eq_some.1 hn⟩
  · rintro ⟨i, hi⟩
    exact ⟨r.slots[i], Vector.mem_toList_iff.2 (Vector.getElem_mem i.isLt), nodeOfByte_eq_some.2 hi⟩

/-! ### Wake entries -/

theorem bit_eq_decide (b : Byte) (i : Nat) : b.getLsbD i = decide (b.toNat / 2 ^ i % 2 = 1) :=
  Nat.testBit_eq_decide_div_mod_eq

theorem levelSense_eq (e : WakeEntry) : e.levelSense = e.control.getLsbD 2 := by
  rw [bit_eq_decide]
  unfold WakeEntry.levelSense WakeEntry.sense
  exact decide_eq_decide.2 (by omega)

theorem matchesHigh_eq (e : WakeEntry) : e.matchesHigh = !e.control.getLsbD 1 := by
  rw [bit_eq_decide]
  unfold WakeEntry.matchesHigh WakeEntry.sense
  rw [← decide_not]
  exact decide_eq_decide.2 (by omega)

theorem debounce_eq (e : WakeEntry) : e.debounce = (match e.control.getLsbD 4, e.control.getLsbD 3 with
    | false, false => 0
    | false, true => 1
    | true, false => 8
    | true, true => 64) := by
  rw [bit_eq_decide, bit_eq_decide]
  have hlt : e.control.toNat / 8 % 4 < 4 := Nat.mod_lt _ (by omega)
  have hhigh : e.control.toNat / 2 ^ 4 % 2 = e.control.toNat / 8 % 4 / 2 := by omega
  have hlow : e.control.toNat / 2 ^ 3 % 2 = e.control.toNat / 8 % 4 % 2 := by omega
  rw [hhigh, hlow]
  unfold WakeEntry.debounce
  generalize e.control.toNat / 8 % 4 = k at hlt
  interval_cases k <;> rfl

/-! ### Plans -/

theorem active_getElem? (p : Plan) (k : Nat) : p.active[k]? = if k < p.count.toNat then p.stages[k]? else none := by
  unfold Plan.active
  rw [List.getElem?_take]
  simp

theorem holds_iff (g : Stage) (code : Word) :
    g.holds code = true ↔ g.lo.toNat ≤ code.toNat ∧ code.toNat ≤ g.hi.toNat := by
  simp [Stage.holds]

theorem fieldReads_holds : fieldReads :=
  ⟨fun r => ⟨rfl, used_iff r, rfl, rfl, rfl, rfl, senses_iff r, mem_prereqs r⟩,
    fun e => ⟨rfl, levelSense_eq e, matchesHigh_eq e, debounce_eq e, fun l => by simp [WakeEntry.onLine], fun L => rfl, rfl, rfl,
      rfl⟩,
    active_getElem?, holds_iff, fun p => ⟨fun L => rfl, fun n => nodeOfByte_eq_some, rfl⟩⟩

end Sys2Proof.Machine

/-! # The window's areas

Which byte each area of the window shows, and a word or double word read byte by byte (R172, R177, R182). -/

namespace Sys2Proof.Machine

/-! ### Which reads are forbidden -/

theorem readForbidden_iff (p : Port) (addr : Word) : readForbidden p addr = true ↔
    p = .host ∧ ((0x400 ≤ addr.toNat ∧ addr.toNat ≤ 0x5FF) ∨ (0x6A0 ≤ addr.toNat ∧ addr.toNat ≤ 0x6EF) ∨
      addr.toNat = 0x780 ∨ (0x790 ≤ addr.toNat ∧ addr.toNat ≤ 0x7FF) ∨ (0x820 ≤ addr.toNat ∧ addr.toNat ≤ 0x82E)) := by
  have heq : addr = 0x0780 ↔ addr.toNat = 0x780 := by bv_omega
  simp only [readForbidden, Bool.and_eq_true, Bool.or_eq_true, decide_eq_true_eq, beq_iff_eq, heq]
  tauto

theorem windowByte_of_forbidden {s : State} {p : Port} {addr : Word} (h : readForbidden p addr = true) :
    s.windowByte p addr = 0 := by
  rw [State.windowByte, if_pos h]

/-- The staged areas of the window as ranges, with the unmapped bytes around them. -/
def stagedArea (k : Nat) : Prop :=
  (0x400 ≤ k ∧ k < 0x600) ∨ (0x6A0 ≤ k ∧ k < 0x700) ∨ (0x780 ≤ k ∧ k < 0x800) ∨ (0x80F ≤ k ∧ k < 0x82F)

/-- The byte of the area that a location lies in. -/
def State.areaByte (s : State) (p : Port) (k : Nat) : Byte :=
  if k < 0x10 then s.identityByte k
  else if k < 0x80 then s.bankedByte p k
  else if k < 0x100 then s.statusByte k
  else if k < 0x200 then s.monitorByte k
  else if k < 0x400 then s.activeNodeByte k
  else if k < 0x600 then stagedByte s.staged k
  else if k < 0x6A0 then s.activeWakeByte k
  else if k < 0x700 then stagedByte s.staged k
  else if k < 0x780 then s.active.plan.byte (k - 0x700)
  else if k < 0x800 then stagedByte s.staged k
  else if k < 0x80F then s.active.policy.byte (k - 0x800)
  else if k < 0x82F then stagedByte s.staged k
  else if 0x900 ≤ k ∧ k < 0x920 then s.retainedByte k
  else 0

theorem windowByte_of_allowed {s : State} {p : Port} {k : Nat} (hk : k < 0x10000)
    (h : ¬readForbidden p (BitVec.ofNat 16 k) = true) : s.windowByte p (BitVec.ofNat 16 k) = s.areaByte p k := by
  have hnat : (BitVec.ofNat 16 k).toNat = k := by simpa using hk
  rw [State.windowByte, if_neg h, hnat]
  rfl

theorem windowByte_of_outside {s : State} {p : Port} {k : Nat} (hk : k < 0x10000) (h : p = .mgmt ∨ ¬stagedArea k) :
    s.windowByte p (BitVec.ofNat 16 k) = s.areaByte p k := by
  have hnat : (BitVec.ofNat 16 k).toNat = k := by simpa using hk
  refine windowByte_of_allowed hk ?_
  rw [readForbidden_iff, hnat]
  rintro ⟨rfl, hstaged⟩
  refine h.elim nofun fun hnot => hnot ?_
  unfold stagedArea
  omega

theorem windowByte_eq_zero {s : State} {p : Port} {k : Nat} (hk : k < 0x10000) (h : s.areaByte p k = 0) :
    s.windowByte p (BitVec.ofNat 16 k) = 0 := by
  by_cases hforbidden : readForbidden p (BitVec.ofNat 16 k) = true
  · exact windowByte_of_forbidden hforbidden
  · exact (windowByte_of_allowed hk hforbidden).trans h

theorem windowByte_identity (s : State) (p : Port) {k : Nat} (h : k < 0x10) :
    s.windowByte p (BitVec.ofNat 16 k) = s.identityByte k := by
  rw [windowByte_of_outside (by omega) (.inr (by unfold stagedArea; omega)), State.areaByte, if_pos h]

theorem windowByte_banked (s : State) (p : Port) {k : Nat} (h : 0x10 ≤ k ∧ k < 0x80) :
    s.windowByte p (BitVec.ofNat 16 k) = s.bankedByte p k := by
  rw [windowByte_of_outside (by omega) (.inr (by unfold stagedArea; omega)), State.areaByte, if_neg (by omega), if_pos h.2]

theorem windowByte_status (s : State) (p : Port) {k : Nat} (h : 0x80 ≤ k ∧ k < 0x100) :
    s.windowByte p (BitVec.ofNat 16 k) = s.statusByte k := by
  rw [windowByte_of_outside (by omega) (.inr (by unfold stagedArea; omega)), State.areaByte]
  iterate 2 rw [if_neg (by omega)]
  rw [if_pos h.2]

theorem windowByte_monitor (s : State) (p : Port) {k : Nat} (h : 0x100 ≤ k ∧ k < 0x200) :
    s.windowByte p (BitVec.ofNat 16 k) = s.monitorByte k := by
  rw [windowByte_of_outside (by omega) (.inr (by unfold stagedArea; omega)), State.areaByte]
  iterate 3 rw [if_neg (by omega)]
  rw [if_pos h.2]

theorem windowByte_activeNode (s : State) (p : Port) {k : Nat} (h : 0x200 ≤ k ∧ k < 0x400) :
    s.windowByte p (BitVec.ofNat 16 k) = s.activeNodeByte k := by
  rw [windowByte_of_outside (by omega) (.inr (by unfold stagedArea; omega)), State.areaByte]
  iterate 4 rw [if_neg (by omega)]
  rw [if_pos h.2]

theorem windowByte_activeWake (s : State) (p : Port) {k : Nat} (h : 0x600 ≤ k ∧ k < 0x6A0) :
    s.windowByte p (BitVec.ofNat 16 k) = s.activeWakeByte k := by
  rw [windowByte_of_outside (by omega) (.inr (by unfold stagedArea; omega)), State.areaByte]
  iterate 6 rw [if_neg (by omega)]
  rw [if_pos h.2]

theorem windowByte_activePlan (s : State) (p : Port) {k : Nat} (h : 0x700 ≤ k ∧ k < 0x780) :
    s.windowByte p (BitVec.ofNat 16 k) = s.active.plan.byte (k - 0x700) := by
  rw [windowByte_of_outside (by omega) (.inr (by unfold stagedArea; omega)), State.areaByte]
  iterate 8 rw [if_neg (by omega)]
  rw [if_pos h.2]

theorem windowByte_activePolicy (s : State) (p : Port) {k : Nat} (h : 0x800 ≤ k ∧ k < 0x80F) :
    s.windowByte p (BitVec.ofNat 16 k) = s.active.policy.byte (k - 0x800) := by
  rw [windowByte_of_outside (by omega) (.inr (by unfold stagedArea; omega)), State.areaByte]
  iterate 10 rw [if_neg (by omega)]
  rw [if_pos h.2]

theorem windowByte_retained (s : State) (p : Port) {k : Nat} (h : 0x900 ≤ k ∧ k < 0x920) :
    s.windowByte p (BitVec.ofNat 16 k) = s.retainedByte k := by
  rw [windowByte_of_outside (by omega) (.inr (by unfold stagedArea; omega)), State.areaByte]
  iterate 12 rw [if_neg (by omega)]
  rw [if_pos h]

theorem windowByte_staged (s : State) {k : Nat} (h : stagedArea k) :
    s.windowByte .mgmt (BitVec.ofNat 16 k) = stagedByte s.staged k := by
  unfold stagedArea at h
  rw [windowByte_of_outside (by omega) (.inl rfl), State.areaByte]
  grind

/-! ### Words, byte by byte -/

theorem byteOf_append (v : Nat) : byteOf v 1 ++ byteOf v 0 = BitVec.ofNat 16 v := by
  refine BitVec.eq_of_toNat_eq ?_
  rw [BitVec.toNat_append, ← Nat.shiftLeft_add_eq_or_of_lt (byteOf v 0).isLt, Nat.shiftLeft_eq]
  simp only [byteOf, BitVec.toNat_ofNat]
  omega

theorem byteOf_append_four (v : Nat) :
    (byteOf v 3 ++ byteOf v 2) ++ (byteOf v 1 ++ byteOf v 0) = BitVec.ofNat 32 v := by
  have hhigh : byteOf v 3 ++ byteOf v 2 = BitVec.ofNat 16 (v / 65536) := by
    rw [← byteOf_append, byteOf, byteOf, byteOf, byteOf, Nat.div_div_eq_div_mul, Nat.div_div_eq_div_mul]
    rfl
  rw [hhigh, byteOf_append]
  refine BitVec.eq_of_toNat_eq ?_
  rw [BitVec.toNat_append, ← Nat.shiftLeft_add_eq_or_of_lt (BitVec.ofNat 16 v).isLt, Nat.shiftLeft_eq]
  simp only [BitVec.toNat_ofNat]
  omega

theorem windowWord_ofNat (s : State) (p : Port) (k : Nat) : s.windowWord p (BitVec.ofNat 16 k) =
    s.windowByte p (BitVec.ofNat 16 (k + 1)) ++ s.windowByte p (BitVec.ofNat 16 k) := by
  rw [BitVec.ofNat_add]
  rfl

theorem windowWord_eq {s : State} {p : Port} {k v : Nat}
    (h : ∀ i : Fin 2, s.windowByte p (BitVec.ofNat 16 (k + i.val)) = byteOf v i.val) :
    s.windowWord p (BitVec.ofNat 16 k) = BitVec.ofNat 16 v := by
  have hlow : s.windowByte p (BitVec.ofNat 16 k) = byteOf v 0 := h 0
  have hhigh : s.windowByte p (BitVec.ofNat 16 (k + 1)) = byteOf v 1 := h 1
  rw [windowWord_ofNat, hlow, hhigh, byteOf_append]

theorem windowDword_eq {s : State} {p : Port} {k v : Nat}
    (h : ∀ i : Fin 4, s.windowByte p (BitVec.ofNat 16 (k + i.val)) = byteOf v i.val) :
    s.windowDword p (BitVec.ofNat 16 k) = BitVec.ofNat 32 v := by
  have hsplit : s.windowDword p (BitVec.ofNat 16 k) =
      s.windowWord p (BitVec.ofNat 16 (k + 2)) ++ s.windowWord p (BitVec.ofNat 16 k) := by
    rw [BitVec.ofNat_add]
    rfl
  have h0 : s.windowByte p (BitVec.ofNat 16 k) = byteOf v 0 := h 0
  have h1 : s.windowByte p (BitVec.ofNat 16 (k + 1)) = byteOf v 1 := h 1
  have h2 : s.windowByte p (BitVec.ofNat 16 (k + 2)) = byteOf v 2 := h 2
  have h3 : s.windowByte p (BitVec.ofNat 16 (k + 2 + 1)) = byteOf v 3 := h 3
  rw [hsplit, windowWord_ofNat, windowWord_ofNat, h0, h1, h2, h3, byteOf_append_four]

end Sys2Proof.Machine

/-! # What the window shows

Each block of the window's map, location by location (R172, R177, R182). -/

namespace Sys2Proof.Machine

/-! ### Fields -/

theorem four_flags : ∀ a b c d : Bool,
    flag a + 2 * flag b + 4 * flag c + 8 * flag d = flagAt a 0 ||| flagAt b 1 ||| flagAt c 2 ||| flagAt d 3 := by
  decide

theorem three_flags : ∀ a b c : Bool, flag a + 2 * flag b + 4 * flag c = flagAt a 0 ||| flagAt b 1 ||| flagAt c 2 := by
  decide

theorem two_flags : ∀ a b : Bool, flag a + 2 * flag b = flagAt a 0 ||| flagAt b 1 := by
  decide

theorem flag_eq : ∀ a : Bool, flag a = flagAt a 0 := by
  decide

theorem optional_eq {α : Type} (code : α → Byte) (x : Option α) : optional code x = (x.map code).getD 0xFF := by
  cases x <;> rfl

/-- A remaining time read as a word. -/
theorem remainingWord_eq {s : State} {p : Port} {k : Nat} {t : Option Nat}
    (h : ∀ i : Fin 2, s.windowByte p (BitVec.ofNat 16 (k + i.val)) = remaining t 2 i.val) :
    s.windowWord p (BitVec.ofNat 16 k) = (t.map (BitVec.ofNat 16)).getD 0xFFFF := by
  rw [windowWord_eq h]
  cases t <;> rfl

/-- A remaining time read as a double word. -/
theorem remainingDword_eq {s : State} {p : Port} {k : Nat} {t : Option Nat}
    (h : ∀ i : Fin 4, s.windowByte p (BitVec.ofNat 16 (k + i.val)) = remaining t 4 i.val) :
    s.windowDword p (BitVec.ofNat 16 k) = (t.map (BitVec.ofNat 32)).getD 0xFFFFFFFF := by
  rw [windowDword_eq h]
  cases t <;> rfl

/-- A field of 16 bits read as a word. -/
theorem fieldWord_eq {s : State} {p : Port} {k : Nat} {w : Word}
    (h : ∀ i : Fin 2, s.windowByte p (BitVec.ofNat 16 (k + i.val)) = byteOf w.toNat i.val) :
    s.windowWord p (BitVec.ofNat 16 k) = w := by
  rw [windowWord_eq h, BitVec.ofNat_toNat, BitVec.setWidth_eq]

/-- A field of 32 bits read as a double word. -/
theorem fieldDword_eq {s : State} {p : Port} {k : Nat} {w : Dword}
    (h : ∀ i : Fin 4, s.windowByte p (BitVec.ofNat 16 (k + i.val)) = byteOf w.toNat i.val) :
    s.windowDword p (BitVec.ofNat 16 k) = w := by
  rw [windowDword_eq h, BitVec.ofNat_toNat, BitVec.setWidth_eq]

theorem windowWord_zero {s : State} {p : Port} {k : Nat}
    (h : ∀ i : Fin 2, s.windowByte p (BitVec.ofNat 16 (k + i.val)) = 0) : s.windowWord p (BitVec.ofNat 16 k) = 0 :=
  fieldWord_eq fun i => (h i).trans (by simp [byteOf])

theorem windowDword_zero {s : State} {p : Port} {k : Nat}
    (h : ∀ i : Fin 4, s.windowByte p (BitVec.ofNat 16 (k + i.val)) = 0) : s.windowDword p (BitVec.ofNat 16 k) = 0 :=
  fieldDword_eq fun i => (h i).trans (by simp [byteOf])

/-! ### Records in a list -/

theorem listByte_of_some {α : Type} {xs : List α} {size k i : Nat} {byte : α → Nat → Byte} {x : α} (h : xs[k]? = some x)
    (hi : i < size) : listByte xs size byte (size * k + i) = byte x i := by
  unfold listByte
  rw [Nat.mul_add_div (by omega), Nat.div_eq_of_lt hi, Nat.add_zero, h, Nat.mul_add_mod, Nat.mod_eq_of_lt hi]

theorem listByte_of_none {α : Type} {xs : List α} {size k i : Nat} {byte : α → Nat → Byte} (h : xs[k]? = none)
    (hi : i < size) : listByte xs size byte (size * k + i) = 0 := by
  unfold listByte
  rw [Nat.mul_add_div (by omega), Nat.div_eq_of_lt hi, Nat.add_zero, h]

theorem statusByte_head (s : State) {i : Nat} (h : i < 16) :
    s.statusByte (0x80 + i) = listByte (s.faults.log.take 1) 16 FaultRecord.byte i := by
  unfold State.statusByte
  rw [if_pos (by omega), Nat.add_sub_cancel_left]

theorem statusByte_queue (s : State) {i : Nat} (h : i < 42) :
    s.statusByte (0x96 + i) = listByte s.queue 6 Request.byte i := by
  unfold State.statusByte
  rw [if_neg (by omega), if_pos (by omega), Nat.add_sub_cancel_left]

theorem statusByte_of_inFlight {s : State} {r : Request} (hr : s.plat.inFlight = some r) {i : Nat} (h : i < 6) :
    s.statusByte (0xC0 + i) = r.byte i := by
  unfold State.statusByte
  rw [if_neg (by omega), if_neg (by omega), if_pos (by omega), hr]
  dsimp only
  rw [Nat.add_sub_cancel_left]

theorem statusByte_of_not_inFlight {s : State} (hr : s.plat.inFlight = none) {i : Nat} (h : i < 6) :
    s.statusByte (0xC0 + i) = if i = 0 then 0xFF else 0 := by
  unfold State.statusByte
  rw [if_neg (by omega), if_neg (by omega), if_pos (by omega), hr]
  dsimp only
  simp only [Nat.add_eq_left]

theorem statusByte_ready (s : State) {i : Nat} (h : i < 32) :
    s.statusByte (0xE0 + i) = (s.ready[i]?.map fun x => BitVec.ofNat 8 x.node.val).getD 0 := by
  unfold State.statusByte
  rw [if_neg (by omega), if_neg (by omega), if_neg (by omega), if_pos (by omega), Nat.add_sub_cancel_left]
  unfold listByte
  rw [Nat.div_one]
  cases s.ready[i]? <;> rfl

theorem monitorByte_log (s : State) (i : Nat) :
    s.monitorByte (0x140 + i) = listByte s.monitor.log 6 ProgressEntry.byte i := by
  unfold State.monitorByte
  rw [if_pos (by omega), Nat.add_sub_cancel_left]

theorem buttonByte_eq (b : ButtonState) (c : Bool) : b.code + (if c then 0x80 else 0) = (match b with
    | .locked => 0
    | .released => 1
    | .pressed => 2
    | .long => 3) ||| flagAt c 7 := by
  cases b <;> cases c <;> rfl

/-! ### The blocks -/

theorem showsIdentity_holds (s : State) (p : Port) : s.showsIdentity p := by
  have reads : ∀ k, k < 0x10 → s.windowByte p (BitVec.ofNat 16 k) = s.identityByte k := fun k hk => windowByte_identity s p hk
  refine ⟨reads 0 (by decide), reads 1 (by decide), reads 2 (by decide), ?_, ?_, reads 8 (by decide), ?_, ?_, ?_, ?_, ?_, ?_⟩
  · exact (reads 3 (by decide)).trans (four_flags ..)
  · exact fieldDword_eq (k := 4) fun i => (reads _ (by omega)).trans (by fin_cases i <;> rfl)
  · have hat : s.windowByte p 0x0009 = s.plat.phase.code := reads 9 (by decide)
    rw [hat]
    cases s.plat.phase <;> rfl
  · exact (reads 0xA (by decide)).trans (optional_eq ..)
  · exact (reads 0xB (by decide)).trans (optional_eq ..)
  · have hat : s.windowByte p 0x000C = optional Leg.code s.plat.recycle := reads 0xC (by decide)
    rw [hat]
    rcases s.plat.recycle with _ | _ | _ | _ <;> rfl
  · exact (reads 0xD (by decide)).trans (three_flags ..)
  · exact remainingWord_eq (k := 0xE) fun i => (reads _ (by omega)).trans (by fin_cases i <;> rfl)

theorem showsMailbox_holds (s : State) (p : Port) : s.showsMailbox p := by
  have reads : ∀ k, 0x10 ≤ k ∧ k < 0x80 → s.windowByte p (BitVec.ofNat 16 k) = s.bankedByte p k :=
    fun k hk => windowByte_banked s p hk
  have head : ∀ i : Fin 4, s.windowByte p (BitVec.ofNat 16 (0x61 + i.val)) =
      listByte ((s.completions.get p).take 1) 4 Completion.byte i.val :=
    fun i => (reads _ (by omega)).trans (by fin_cases i <;> rfl)
  refine ⟨fun i => ?_, reads 0x20 (by decide), ?_, reads 0x22 (by decide), reads 0x23 (by decide), reads 0x24 (by decide),
    reads 0x25 (by decide), ?_, ?_, ?_, reads 0x60 (by decide), fun hc => ?_, fun c rest hc => ?_, reads 0x65 (by decide),
    reads 0x66 (by decide)⟩
  · have hat := reads (0x10 + i.val) (by omega)
    rw [BitVec.ofNat_add] at hat
    refine hat.trans ?_
    unfold State.bankedByte
    rw [if_pos (by omega), Nat.add_sub_cancel_left]
    simp
  · have hat : s.windowByte p 0x0021 = (s.mailbox.get p).status.code := reads 0x21 (by decide)
    rw [hat]
    cases (s.mailbox.get p).status <;> rfl
  · exact fieldWord_eq (k := 0x40) fun i => (reads _ (by omega)).trans (by fin_cases i <;> rfl)
  · exact windowWord_zero (k := 0x42) fun i => (reads _ (by omega)).trans (by fin_cases i <;> rfl)
  · exact fieldWord_eq (k := 0x44) fun i => (reads _ (by omega)).trans (by fin_cases i <;> rfl)
  · refine windowDword_zero (k := 0x61) fun i => (head i).trans ?_
    rw [hc]
    rfl
  · rw [hc] at head
    exact ⟨head 0, head 1, head 2, (head 3).trans (flag_eq _)⟩

/-- The record at the head of the fault log (R182). -/
theorem faultHead_shown {s : State} {p : Port} {f : FaultRecord}
    (head : ∀ i : Fin 16, s.windowByte p (BitVec.ofNat 16 (0x80 + i.val)) = f.byte i.val) :
    let reads := s.windowByte p
    s.windowWord p 0x0080 = f.seq ∧ reads 0x0082 = f.kind.code ∧
      (∀ n, f.node = some n → reads 0x0083 = BitVec.ofNat 8 n.val) ∧
      (∀ st, f.nodeState = some st → (reads 0x0084).truncate 4 = st.code.truncate 4) ∧
      (∀ k, f.stage = some k → reads 0x0085 = BitVec.ofNat 8 k) ∧ reads 0x0086 = levelCode f.settled ∧
      reads 0x0087 = f.phase.code ∧ (∀ L, f.target = some L → reads 0x0088 = levelCode L) ∧ reads 0x0089 = f.action.code ∧
      s.windowDword p 0x008A = f.uptime ∧ s.windowWord p 0x008E = 0 := by
  refine ⟨fieldWord_eq (k := 0x80) fun i => (head ⟨i.val, by omega⟩).trans (by fin_cases i <;> rfl), head 2, fun n hn => ?_,
    fun st hst => ?_, fun k hk => ?_, head 6, head 7, fun L hL => ?_, head 9,
    fieldDword_eq (k := 0x8A) fun i => Eq.trans ?_ ((head ⟨10 + i.val, by omega⟩).trans (by fin_cases i <;> rfl)),
    windowWord_zero (k := 0x8E) fun i => Eq.trans ?_ ((head ⟨14 + i.val, by omega⟩).trans (by fin_cases i <;> rfl))⟩
  · exact (head 3).trans (congrArg (optional _) hn)
  · exact congrArg _ ((head 4).trans (congrArg (optional _) hst))
  · exact (head 5).trans (congrArg (optional _) hk)
  · exact (head 8).trans (congrArg (optional _) hL)
  · rw [← Nat.add_assoc]
  · rw [← Nat.add_assoc]

theorem showsQueues_holds (s : State) (p : Port) : s.showsQueues p := by
  have reads : ∀ k, 0x80 ≤ k ∧ k < 0x100 → s.windowByte p (BitVec.ofNat 16 k) = s.statusByte k :=
    fun k hk => windowByte_status s p hk
  have head : ∀ i : Fin 16, s.windowByte p (BitVec.ofNat 16 (0x80 + i.val)) =
      listByte (s.faults.log.take 1) 16 FaultRecord.byte i.val :=
    fun i => (reads _ (by omega)).trans (statusByte_head s i.isLt)
  have queued : ∀ (i : Fin 7) (j : Fin 6), s.windowByte p (0x0096 + BitVec.ofNat 16 (6 * i.val + j.val)) =
      listByte s.queue 6 Request.byte (6 * i.val + j.val) := fun i j => by
    have hat := reads (0x96 + (6 * i.val + j.val)) (by omega)
    rw [statusByte_queue s (by omega), BitVec.ofNat_add] at hat
    exact hat
  refine ⟨fun f rest hf => faultHead_shown fun i => ?_, fun hf i => ?_, reads 0x90 (by decide),
    (reads 0x91 (by decide)).trans (flag_eq _), fieldWord_eq (k := 0x92) fun i => (reads _ (by omega)).trans (by fin_cases i <;> rfl),
    reads 0x94 (by decide), fun i r hr j => (queued i j).trans (listByte_of_some hr j.isLt),
    fun i hr j => (queued i j).trans (listByte_of_none hr j.isLt), fun r hr j => ?_, fun hr => ⟨?_, ?_, ?_⟩⟩
  · rw [head, hf]
    have hfirst : (List.take 1 (f :: rest))[0]? = some f := rfl
    simpa using listByte_of_some (byte := FaultRecord.byte) hfirst i.isLt
  · have hat := head i
    rw [BitVec.ofNat_add, hf] at hat
    exact hat
  · have hat := reads (0xC0 + j.val) (by omega)
    rw [BitVec.ofNat_add, statusByte_of_inFlight hr j.isLt] at hat
    exact hat
  · exact (reads 0xC0 (by decide)).trans (statusByte_of_not_inFlight hr (i := 0) (by decide))
  · refine windowDword_zero (k := 0xC1) fun i => (reads _ (by omega)).trans ?_
    rw [show 0xC1 + i.val = 0xC0 + (1 + i.val) by omega, statusByte_of_not_inFlight hr (by omega), if_neg (by omega)]
  · exact (reads 0xC5 (by decide)).trans (statusByte_of_not_inFlight hr (i := 5) (by decide))

theorem showsBlock_holds (s : State) (p : Port) : s.showsBlock p := by
  have reads : ∀ k, 0x80 ≤ k ∧ k < 0x100 → s.windowByte p (BitVec.ofNat 16 k) = s.statusByte k :=
    fun k hk => windowByte_status s p hk
  refine ⟨(reads 0xC6 (by decide)).trans (buttonByte_eq ..), reads 0xC7 (by decide), ?_,
    (reads 0xCC (by decide)).trans (two_flags ..), ?_, ?_, ?_, reads 0xDF (by decide), fun i => ?_⟩
  · exact remainingDword_eq (k := 0xC8) fun i => (reads _ (by omega)).trans (by fin_cases i <;> rfl)
  · have hat : s.windowByte p 0x00CD = optional BankId.code s.loadedBank := reads 0xCD (by decide)
    rw [hat]
    rcases s.loadedBank with _ | _ | _ <;> rfl
  · exact fieldWord_eq (k := 0xCE) fun i => (reads _ (by omega)).trans (by fin_cases i <;> rfl)
  · exact fieldWord_eq (k := 0xD0) fun i => (reads _ (by omega)).trans (by fin_cases i <;> rfl)
  · have hat := reads (0xE0 + i.val) (by omega)
    rw [BitVec.ofNat_add, statusByte_ready s i.isLt] at hat
    exact hat

theorem showsMonitor_holds (s : State) (p : Port) : s.showsMonitor p := by
  have reads : ∀ k, 0x100 ≤ k ∧ k < 0x200 → s.windowByte p (BitVec.ofNat 16 k) = s.monitorByte k :=
    fun k hk => windowByte_monitor s p hk
  have logged : ∀ (i : Fin 32) (j : Nat), j < 6 → s.windowByte p (BitVec.ofNat 16 (0x140 + (6 * i.val + j))) =
      listByte s.monitor.log 6 ProgressEntry.byte (6 * i.val + j) := fun i j hj => by
    rw [reads _ (by omega), monitorByte_log]
  have hword : ∀ i : Fin 32, (0x0140 : Word) + BitVec.ofNat 16 (6 * i.val) = BitVec.ofNat 16 (0x140 + 6 * i.val) :=
    fun i => (BitVec.ofNat_add ..).symm
  have hdword : ∀ i : Fin 32, (0x0142 : Word) + BitVec.ofNat 16 (6 * i.val) = BitVec.ofNat 16 (0x142 + 6 * i.val) :=
    fun i => (BitVec.ofNat_add ..).symm
  have second : ∀ i : Fin 32, ∀ j, 0x142 + 6 * i.val + j = 0x140 + (6 * i.val + (2 + j)) := fun i j => by omega
  refine ⟨?_, ?_, ?_, ?_, reads 0x108 (by decide), reads 0x109 (by decide), ?_, reads 0x10C (by decide), fun i e he => ?_,
    fun i he => ?_⟩
  · exact windowWord_zero (k := 0x100) fun i => (reads _ (by omega)).trans (by fin_cases i <;> rfl)
  · have hat : s.windowByte p 0x0102 = s.monitor.state.code := reads 0x102 (by decide)
    rw [hat]
    cases s.monitor.state <;> rfl
  · have hat : s.windowByte p 0x0103 = optional (fun k => BitVec.ofNat 8 k) s.monitor.state.stage := reads 0x103 (by decide)
    rw [hat]
    cases s.monitor.state <;> rfl
  · exact remainingDword_eq (k := 0x104) fun i => (reads _ (by omega)).trans (by fin_cases i <;> rfl)
  · exact fieldWord_eq (k := 0x10A) fun i => (reads _ (by omega)).trans (by fin_cases i <;> rfl)
  · rw [hword, hdword]
    refine ⟨fieldWord_eq fun j => ?_, fieldDword_eq fun j => ?_⟩
    · rw [Nat.add_assoc, logged i _ (by omega), listByte_of_some he (by omega), ProgressEntry.byte, if_pos j.isLt]
    · rw [second, logged i _ (by omega), listByte_of_some he (by omega), ProgressEntry.byte, if_neg (by omega),
        Nat.add_sub_cancel_left]
  · rw [hword, hdword]
    refine ⟨windowWord_zero fun j => ?_, windowDword_zero fun j => ?_⟩
    · rw [Nat.add_assoc, logged i _ (by omega), listByte_of_none he (by omega)]
    · rw [second, logged i _ (by omega), listByte_of_none he (by omega)]

end Sys2Proof.Machine

/-! # What the window shows: the tables

The active tables, the retained record, the staged set and the unmapped locations (R172, R177, R182). -/

namespace Sys2Proof.Machine

/-! ### Live bytes -/

theorem stateCode_cases (x : NodeState) : ∃ k : Fin 9, x.code = BitVec.ofNat 8 k.val := by
  cases x
  exacts [⟨0, rfl⟩, ⟨1, rfl⟩, ⟨2, rfl⟩, ⟨3, rfl⟩, ⟨4, rfl⟩, ⟨5, rfl⟩, ⟨6, rfl⟩, ⟨7, rfl⟩, ⟨8, rfl⟩]

/-- The fields of a live record's byte do not overlap. -/
theorem packed_fields : ∀ (k : Fin 9) (r : Fin 4) (g d : Bool),
    BitVec.ofNat 8 k.val + BitVec.ofNat 8 (16 * r.val) + (if g then 0x40 else 0 : Byte) + (if d then 0x80 else 0 : Byte) =
      BitVec.ofNat 8 k.val ||| (BitVec.ofNat 8 r.val <<< 4) ||| flagAt g 6 ||| flagAt d 7 := by
  decide

theorem nodeLiveByte_eq (l : NodeLive) : l.byte =
    l.state.code ||| (BitVec.ofNat 8 (l.retry % 4) <<< 4) ||| flagAt l.good 6 ||| flagAt l.noted 7 := by
  obtain ⟨k, hk⟩ := stateCode_cases l.state
  unfold NodeLive.byte
  rw [hk]
  exact packed_fields k ⟨l.retry % 4, Nat.mod_lt _ (by decide)⟩ l.good l.noted

theorem wakeLiveByte_eq (w : WakeLive) : w.byte =
    flagAt w.pending 0 ||| flagAt w.level.isSome 1 ||| flagAt (w.level == some true) 2 ||| flagAt w.lastMatch.isSome 3 :=
  four_flags ..

/-! ### Areas, record by record -/

theorem activeNodeByte_record (s : State) (n : NodeId) {i : Nat} (h : i < 15) :
    s.activeNodeByte (0x200 + (16 * n.val + i)) = (s.record n).byte i := by
  have hn : Fin.ofNat 32 ((0x200 + (16 * n.val + i) - 0x200) / 16) = n := Fin.ext (by simp only [Fin.val_ofNat]; omega)
  unfold State.activeNodeByte
  rw [hn, show (0x200 + (16 * n.val + i)) % 16 = i by omega]
  exact if_neg (by omega)

theorem activeNodeByte_live (s : State) (n : NodeId) : s.activeNodeByte (0x20F + 16 * n.val) = (s.node n).byte := by
  have hn : Fin.ofNat 32 ((0x20F + 16 * n.val - 0x200) / 16) = n := Fin.ext (by simp only [Fin.val_ofNat]; omega)
  unfold State.activeNodeByte
  rw [hn]
  exact if_pos (by omega)

theorem wakeOfAddress (e : Fin 16) {i : Nat} (h : i < 10) :
    Fin.ofNat 16 ((0x600 + (10 * e.val + i) - 0x600) / 10) = e ∧ (0x600 + (10 * e.val + i) - 0x600) % 10 = i :=
  ⟨Fin.ext (by simp only [Fin.val_ofNat]; omega), by omega⟩

theorem activeWakeByte_record (s : State) (e : Fin 16) {i : Nat} (h : i < 5) :
    s.activeWakeByte (0x600 + (10 * e.val + i)) = (s.wakeEntry e).byte i := by
  obtain ⟨hentry, hbyte⟩ := wakeOfAddress e (i := i) (by omega)
  unfold State.activeWakeByte
  rw [hentry, hbyte]
  exact if_pos h

theorem activeWakeByte_live (s : State) (e : Fin 16) : s.activeWakeByte (0x600 + (10 * e.val + 5)) = (s.wakeLive e).byte := by
  obtain ⟨hentry, hbyte⟩ := wakeOfAddress e (i := 5) (by decide)
  unfold State.activeWakeByte
  rw [hentry, hbyte]
  rfl

theorem activeWakeByte_lastMatch {s : State} {e : Fin 16} {t : Dword} (ht : (s.wakeLive e).lastMatch = some t) {i : Nat}
    (h : i < 4) : s.activeWakeByte (0x600 + (10 * e.val + (6 + i))) = byteOf t.toNat i := by
  obtain ⟨hentry, hbyte⟩ := wakeOfAddress e (i := 6 + i) (by omega)
  unfold State.activeWakeByte
  dsimp only
  rw [hentry, hbyte, ht, if_neg (by omega), if_neg (by omega)]
  dsimp only
  rw [Nat.add_sub_cancel_left]

theorem planByte_stage (p : Plan) (k : Fin 16) {i : Nat} (h : i < 7) :
    p.byte (0x10 + (7 * k.val + i)) = (p.stages[k]).byte i := by
  have hdiv : (0x10 + (7 * k.val + i) - 0x10) / 7 = k.val := by omega
  have hmod : (0x10 + (7 * k.val + i) - 0x10) % 7 = i := by omega
  unfold Plan.byte
  rw [if_neg (by omega), if_neg (by omega), dif_pos (by omega)]
  simp only [hdiv, hmod]
  rfl

theorem planByte_unmapped (p : Plan) {i : Nat} (h : 1 ≤ i ∧ i < 0x10) : p.byte i = 0 := by
  unfold Plan.byte
  rw [if_neg (by omega), if_pos h.2]

theorem stagedByte_node (c : ConfigSet) (n : NodeId) {i : Nat} (h : i < 16) :
    stagedByte c (0x400 + (16 * n.val + i)) = (c.node n).byte i := by
  have hdiv : (0x400 + (16 * n.val + i) - 0x400) / 16 = n.val := by omega
  have hmod : (0x400 + (16 * n.val + i)) % 16 = i := by omega
  unfold stagedByte
  rw [dif_pos (by omega)]
  simp only [hdiv, hmod]
  rfl

theorem stagedByte_wake (c : ConfigSet) (e : Fin 16) {i : Nat} (h : i < 5) :
    stagedByte c (0x6A0 + (5 * e.val + i)) = (c.wake[e]).byte i := by
  have hdiv : (0x6A0 + (5 * e.val + i) - 0x6A0) / 5 = e.val := by omega
  have hmod : (0x6A0 + (5 * e.val + i) - 0x6A0) % 5 = i := by omega
  unfold stagedByte
  rw [dif_neg (by omega), dif_pos (by omega)]
  simp only [hdiv, hmod]
  rfl

theorem stagedByte_plan (c : ConfigSet) {i : Nat} (h : i < 0x80) : stagedByte c (0x780 + i) = c.plan.byte i := by
  unfold stagedByte
  rw [dif_neg (by omega), dif_neg (by omega), if_pos (by omega), Nat.add_sub_cancel_left]

theorem stagedByte_policy (c : ConfigSet) {i : Nat} (h : i < 15) : stagedByte c (0x820 + i) = c.policy.byte i := by
  unfold stagedByte
  rw [dif_neg (by omega), dif_neg (by omega), if_neg (by omega), if_pos (by omega), Nat.add_sub_cancel_left]

theorem stagedByte_unmapped (c : ConfigSet) {a : Nat} (h : (0x6F0 ≤ a ∧ a < 0x700) ∨ (0x80F ≤ a ∧ a < 0x820)) :
    stagedByte c a = 0 := by
  unfold stagedByte
  rw [dif_neg (by omega), dif_neg (by omega), if_neg (by omega), if_neg (by omega)]

theorem retainedByte_of_firstFault {s : State} {f : FaultRecord} (hf : s.retained.firstFault = some f) (i : Nat) :
    s.retainedByte (0x910 + i) = f.byte i := by
  unfold State.retainedByte
  rw [if_pos (by omega), hf]
  dsimp only
  rw [Nat.add_sub_cancel_left]

/-! ### The blocks -/

theorem showsNodes_holds (s : State) (p : Port) : s.showsNodes p := by
  intro n
  refine ⟨fun i => ?_, ?_⟩
  · have hat := windowByte_activeNode s p (k := 0x200 + (16 * n.val + i.val)) (by omega)
    rw [BitVec.ofNat_add, activeNodeByte_record s n i.isLt] at hat
    exact hat
  · have hat := windowByte_activeNode s p (k := 0x20F + 16 * n.val) (by omega)
    rw [BitVec.ofNat_add, activeNodeByte_live, nodeLiveByte_eq] at hat
    exact hat

theorem showsWakes_holds (s : State) (p : Port) : s.showsWakes p := by
  intro e
  have shown : ∀ i, i < 10 → s.windowByte p (BitVec.ofNat 16 (0x600 + (10 * e.val + i))) =
      s.activeWakeByte (0x600 + (10 * e.val + i)) := fun i hi => windowByte_activeWake s p (by omega)
  refine ⟨fun i => ?_, ?_, fun t ht => ?_⟩
  · have hat := shown i.val (by omega)
    rw [BitVec.ofNat_add, activeWakeByte_record s e i.isLt] at hat
    exact hat
  · have hat := shown 5 (by decide)
    rw [activeWakeByte_live, wakeLiveByte_eq,
      show 0x600 + (10 * e.val + 5) = 0x605 + 10 * e.val by omega, BitVec.ofNat_add] at hat
    exact hat
  · have hword : (0x0606 : Word) + BitVec.ofNat 16 (10 * e.val) = BitVec.ofNat 16 (0x606 + 10 * e.val) :=
      (BitVec.ofNat_add ..).symm
    rw [hword]
    refine fieldDword_eq fun i => ?_
    rw [show 0x606 + 10 * e.val + i.val = 0x600 + (10 * e.val + (6 + i.val)) by omega, shown _ (by omega),
      activeWakeByte_lastMatch ht i.isLt]

theorem showsPlan_holds (s : State) (p : Port) : s.showsPlan p := by
  refine ⟨windowByte_activePlan s p (k := 0x700) (by decide), fun k i => ?_, fun i => ?_⟩
  · have hat := windowByte_activePlan s p (k := 0x710 + (7 * k.val + i.val)) (by omega)
    rw [BitVec.ofNat_add, show 0x710 + (7 * k.val + i.val) - 0x700 = 0x10 + (7 * k.val + i.val) by omega,
      planByte_stage _ k i.isLt] at hat
    exact hat
  · have hat := windowByte_activePolicy s p (k := 0x800 + i.val) (by omega)
    rw [BitVec.ofNat_add, Nat.add_sub_cancel_left] at hat
    exact hat

theorem showsRetained_holds (s : State) (p : Port) : s.showsRetained p := by
  have reads : ∀ k, 0x900 ≤ k ∧ k < 0x920 → s.windowByte p (BitVec.ofNat 16 k) = s.retainedByte k :=
    fun k hk => windowByte_retained s p hk
  refine ⟨(reads 0x900 (by decide)).trans (flag_eq _), (reads 0x901 (by decide)).trans (optional_eq ..),
    (reads 0x902 (by decide)).trans (flag_eq _), ?_, (reads 0x904 (by decide)).trans (flag_eq _),
    (reads 0x905 (by decide)).trans (flag_eq _), fun f hf i => ?_⟩
  · have hat : s.windowByte p 0x0903 = s.retained.startCause.code := reads 0x903 (by decide)
    rw [hat]
    cases s.retained.startCause <;> rfl
  · have hat := reads (0x910 + i.val) (by omega)
    rw [BitVec.ofNat_add, retainedByte_of_firstFault hf] at hat
    exact hat

theorem showsStaged_holds (s : State) (p : Port) : s.showsStaged p := by
  intro hp
  subst hp
  have shown : ∀ k, stagedArea k → s.windowByte .mgmt (BitVec.ofNat 16 k) = stagedByte s.staged k :=
    fun k hk => windowByte_staged s hk
  refine ⟨fun n => ⟨fun i => ?_, ?_⟩, fun e i => ?_, ?_, fun k i => ?_, fun i => ?_⟩
  · have hat := shown (0x400 + (16 * n.val + i.val)) (by unfold stagedArea; omega)
    rw [BitVec.ofNat_add, stagedByte_node _ n (by omega)] at hat
    exact hat
  · have hat := shown (0x400 + (16 * n.val + 15)) (by unfold stagedArea; omega)
    rw [stagedByte_node _ n (by decide), show 0x400 + (16 * n.val + 15) = 0x40F + 16 * n.val by omega, BitVec.ofNat_add] at hat
    exact hat
  · have hat := shown (0x6A0 + (5 * e.val + i.val)) (by unfold stagedArea; omega)
    rw [BitVec.ofNat_add, stagedByte_wake _ e i.isLt] at hat
    exact hat
  · exact (shown 0x780 (by unfold stagedArea; decide)).trans (stagedByte_plan s.staged (i := 0) (by decide))
  · have hat := shown (0x790 + (7 * k.val + i.val)) (by unfold stagedArea; omega)
    rw [BitVec.ofNat_add, show 0x790 + (7 * k.val + i.val) = 0x780 + (0x10 + (7 * k.val + i.val)) by omega,
      stagedByte_plan _ (by omega), planByte_stage _ k i.isLt] at hat
    exact hat
  · have hat := shown (0x820 + i.val) (by unfold stagedArea; omega)
    rw [BitVec.ofNat_add, stagedByte_policy _ i.isLt] at hat
    exact hat

/-! ### Unmapped locations -/

theorem bankedByte_unmapped (s : State) (p : Port) {k : Nat}
    (h : (0x26 ≤ k ∧ k < 0x40) ∨ (0x46 ≤ k ∧ k < 0x60) ∨ (0x67 ≤ k ∧ k < 0x80)) : s.bankedByte p k = 0 := by
  unfold State.bankedByte
  dsimp only
  rw [if_neg (by omega)]
  split <;> grind

theorem statusByte_unmapped (s : State) {k : Nat} (h : k = 0x95 ∨ (0xD2 ≤ k ∧ k < 0xDF)) : s.statusByte k = 0 := by
  unfold State.statusByte
  iterate 4 rw [if_neg (by omega)]
  split <;> grind

theorem monitorByte_unmapped (s : State) {k : Nat} (h : 0x10D ≤ k ∧ k < 0x140) : s.monitorByte k = 0 := by
  unfold State.monitorByte
  rw [if_neg (by omega)]
  split <;> grind

theorem retainedByte_unmapped (s : State) {k : Nat} (h : 0x906 ≤ k ∧ k < 0x910) : s.retainedByte k = 0 := by
  unfold State.retainedByte
  rw [if_neg (by omega)]
  split <;> grind

theorem showsUnmapped_holds (s : State) (p : Port) : s.showsUnmapped p := by
  intro a ha
  have hzero : s.areaByte p a.toNat = 0 := by
    have hlt := a.isLt
    generalize a.toNat = k at ha hlt
    unfold State.areaByte
    rcases ha with h | h | h | h | h | h | h | h | h | h | h | h | h
    · iterate 13 rw [if_neg (by omega)]
    · iterate 2 rw [if_neg (by omega)]
      rw [if_pos (by omega), statusByte_unmapped s (.inl h)]
    · rw [if_neg (by omega), if_pos (by omega), bankedByte_unmapped s p (.inl h)]
    · rw [if_neg (by omega), if_pos (by omega), bankedByte_unmapped s p (.inr (.inl h))]
    · rw [if_neg (by omega), if_pos (by omega), bankedByte_unmapped s p (.inr (.inr h))]
    · iterate 2 rw [if_neg (by omega)]
      rw [if_pos (by omega), statusByte_unmapped s (.inr h)]
    · iterate 3 rw [if_neg (by omega)]
      rw [if_pos (by omega), monitorByte_unmapped s h]
    · iterate 8 rw [if_neg (by omega)]
      rw [if_pos (by omega), planByte_unmapped _ (by omega)]
    · iterate 11 rw [if_neg (by omega)]
      rw [if_pos (by omega), stagedByte_unmapped _ (.inr h)]
    · iterate 13 rw [if_neg (by omega)]
    · iterate 12 rw [if_neg (by omega)]
      rw [if_pos (by omega), retainedByte_unmapped s h]
    · iterate 7 rw [if_neg (by omega)]
      rw [if_pos (by omega), stagedByte_unmapped _ (.inl h)]
    · iterate 9 rw [if_neg (by omega)]
      rw [if_pos (by omega), show k = 0x780 + (k - 0x780) by omega, stagedByte_plan _ (by omega),
        planByte_unmapped _ (by omega)]
  have hat := windowByte_eq_zero a.isLt hzero
  rwa [BitVec.ofNat_toNat, BitVec.setWidth_eq] at hat

/-- Settles O50: by the ranges of the forbidden reads, the layouts, and what each block of the map shows. -/
theorem forbiddenReadsGiveZeroAndViolate : Obligations.ForbiddenReadsGiveZeroAndViolate := by
  refine ⟨readForbidden_iff, fun s p addr h => ⟨((readForbidden_iff p addr).1 h).1, windowByte_of_forbidden h, fun ht => ?_⟩,
    recordLayouts_holds, fieldReads_holds, fieldCodes_holds, fun s p => ⟨showsIdentity_holds s p, showsMailbox_holds s p,
      showsQueues_holds s p, showsBlock_holds s p, showsMonitor_holds s p, showsNodes_holds s p, showsWakes_holds s p,
      showsPlan_holds s p, showsRetained_holds s p, showsStaged_holds s p, showsUnmapped_holds s p⟩⟩
  obtain ⟨rfl, -⟩ := (readForbidden_iff p addr).1 h
  have hexec : exec (.forbiddenRead .host addr) s =
      .next (s.readEvent .host addr fun s => if readForbidden .host addr then s.raise .host .violation else s) := rfl
  rw [hexec, State.readEvent, if_pos ht, if_pos h]
  rfl

end Sys2Proof.Machine

/-! # What a start keeps

The retained record, the button and the requests across the reactions, the good events and the plain requests of a start (R96, R120, R130, R164, R165, R170, R171). -/

namespace Sys2Proof.Machine

/-- The retained record is the record of the start but for the level and a first fault; the button is locked; no request asks for the alternate image. -/
structure State.Starting (r : Retained) (s : State) : Prop where
  mark : s.retained.mark = true
  checkGood : s.retained.checkGood = true
  startCause : s.retained.startCause = r.startCause
  lost : s.retained.lost = r.lost
  firstFault : ∀ f, r.firstFault = some f → s.retained.firstFault = some f
  bsel : s.retained.bsel = r.bsel
  locked : s.button.state = .locked
  queue : ∀ q ∈ s.queue, q.alternate = false
  inFlight : ∀ q, s.plat.inFlight = some q → q.alternate = false

section

variable {r : Retained} {s t : State}

theorem State.Starting.congr (h : s.Starting r) (hretained : t.retained = s.retained) (hbutton : t.button.state = .locked)
    (hqueue : ∀ q ∈ t.queue, q.alternate = false) (hflight : ∀ q, t.plat.inFlight = some q → q.alternate = false) :
    t.Starting r where
  mark := hretained ▸ h.mark
  checkGood := hretained ▸ h.checkGood
  startCause := hretained ▸ h.startCause
  lost := hretained ▸ h.lost
  firstFault := hretained ▸ h.firstFault
  bsel := hretained ▸ h.bsel
  locked := hbutton
  queue := hqueue
  inFlight := hflight

theorem State.Starting.of_same (h : s.Starting r) (hretained : t.retained = s.retained) (hbutton : t.button = s.button)
    (hqueue : t.queue = s.queue) (hplat : t.plat = s.plat) : t.Starting r :=
  h.congr hretained (hbutton ▸ h.locked) (hqueue ▸ h.queue) (hplat ▸ h.inFlight)

theorem State.Starting.sameButNodes (h : s.Starting r) (hsame : s.sameButNodes t) : t.Starting r := by
  obtain ⟨nodes, budget, ready, rfl⟩ := sameButNodes_exists hsame
  exact h.of_same rfl rfl rfl rfl

theorem State.Starting.withQueue (h : s.Starting r) {qs : List Request} (hqs : ∀ q ∈ qs, q ∈ s.queue) :
    ({ s with queue := qs } : State).Starting r :=
  h.congr rfl h.locked (fun q hq => h.queue q (hqs q hq)) h.inFlight

/-! ### Requests -/

theorem State.Starting.startedFor (h : s.Starting r) {q : Request} (hq : q.alternate = false) : (s.startedFor q).Starting r :=
  h.congr rfl h.locked h.queue fun _ hq' => Option.some.inj hq' ▸ hq

theorem State.Starting.takenInSettled (h : s.Starting r) {q : Request} (hq : q.alternate = false) :
    (s.takenInSettled q).Starting r := by
  unfold State.takenInSettled
  split
  · exact h.of_same rfl rfl rfl rfl
  · exact h.startedFor hq

theorem State.Starting.overtakenBy (h : s.Starting r) {q : Request} (hq : q.alternate = false) : (s.overtakenBy q).Starting r :=
  have hlost : ({ s with
      queue := s.queue.filter fun q' => q'.source != q.source
      completions := s.ended (s.plat.inFlight.toList ++ (s.olderThan q).toList) .superseded
      monitor := s.monitor.afterLoss (s.plat.inFlight.toList ++ (s.olderThan q).toList) } : State).Starting r :=
    (h.withQueue fun _ => List.mem_of_mem_filter).of_same rfl rfl rfl rfl
  hlost.startedFor hq

theorem State.Starting.arrive (h : s.Starting r) {q : Request} (hq : q.alternate = false) : (s.arrive q).Starting r := by
  have harr := arrived s q
  generalize s.arrive q = t at harr
  cases harr
  case discarded => exact h
  case joins =>
    refine h.congr rfl h.locked (fun q' hq' => ?_) h.inFlight
    rcases List.mem_append.1 hq' with hold | hnew
    · exact h.queue q' hold
    · exact List.mem_singleton.1 hnew ▸ hq
  case merges => exact h.of_same rfl rfl rfl rfl
  case replaces =>
    refine h.congr rfl h.locked (fun q' hq' => ?_) h.inFlight
    obtain ⟨old, hold, rfl⟩ := List.mem_map.1 hq'
    split
    · exact hq
    · exact h.queue old hold
  case waits =>
    refine h.congr rfl h.locked (fun q' hq' => ?_) h.inFlight
    rcases List.mem_append.1 hq' with hold | hnew
    · exact h.queue q' (List.mem_of_mem_filter hold)
    · exact List.mem_singleton.1 hnew ▸ hq
  case overtakes => exact h.overtakenBy hq

/-! ### The reaction -/

theorem State.Starting.heldAt (h : s.Starting r) : s.heldAt.Starting r := h.congr rfl h.locked h.queue h.inFlight

theorem State.Starting.repairing (h : s.Starting r) : s.repairing.Starting r := h.congr rfl h.locked h.queue nofun

theorem State.Starting.settledAt (h : s.Starting r) (L : Level) : (s.settledAt L).Starting r where
  mark := h.mark
  checkGood := rfl
  startCause := h.startCause
  lost := h.lost
  firstFault := h.firstFault
  bsel := h.bsel
  locked := h.locked
  queue := h.queue
  inFlight := nofun

/-- Without an alternate request in flight a via settle leaves the boot-select value (R62). -/
theorem State.Starting.viaSettledAt (h : s.Starting r) (L : Level) : (s.viaSettledAt L).Starting r where
  mark := h.mark
  checkGood := rfl
  startCause := h.startCause
  lost := h.lost
  firstFault := h.firstFault
  bsel := by
    have hplain : s.plat.inFlight.any Request.alternate = false := by
      cases hf : s.plat.inFlight with
      | none => rfl
      | some q => exact h.inFlight q hf
    rw [← h.bsel]
    show (s.retained.bsel != s.plat.inFlight.any Request.alternate) = s.retained.bsel
    rw [hplain, Bool.bne_false]
  locked := h.locked
  queue := h.queue
  inFlight := h.inFlight

theorem State.Starting.applyMove (h : s.Starting r) {m : Move} (hm : s.nextMove = some m) : (s.applyMove m).Starting r := by
  obtain ⟨-, -, hcases⟩ := nextMove_cases hm
  rcases hcases with ⟨rfl, -⟩ | hs | hr | ⟨-, -, n, -, rfl⟩
  · exact h.heldAt
  · obtain ⟨-, ⟨v, -, rfl⟩ | ⟨-, L, -, rfl⟩⟩ := settles_cases hs
    · have heq : s.applyMove (.viaSettle v) = s.viaSettledAt v := viaSettle_eq s v
      exact heq ▸ h.viaSettledAt v
    · have heq : s.applyMove (.settle L) = s.settledAt L := settle_eq s L
      exact heq ▸ h.settledAt L
  · obtain ⟨q, hfind, -, rfl⟩ | ⟨-, rfl⟩ | ⟨hset, q, rest, hq, rfl⟩ := nextRequest_cases hr
    · have heq : s.applyMove (.handForced q) =
          State.overtakenBy { s with queue := s.queue.filter fun q' => q'.source != q.source } q :=
        takeForced_eq (forced_of_find hfind)
      rw [heq]
      exact (h.withQueue fun _ => List.mem_of_mem_filter).overtakenBy
        (h.queue q (List.mem_of_find?_eq_some hfind))
    · have heq : s.applyMove .repair = s.repairing := startRepair_eq s
      exact heq ▸ h.repairing
    · have heq : s.applyMove (.takeHead q) = State.takenInSettled { s with queue := rest } q := by
        rw [← take_eq_takenInSettled (s := { s with queue := rest }) q hset, State.applyMove, hq]
        rfl
      rw [heq]
      exact (h.withQueue fun q' hq' => hq ▸ List.mem_cons_of_mem q hq').takenInSettled
        (h.queue q (hq ▸ List.mem_cons_self))
  · exact h.sameButNodes (grant_sameButNodes s n)

theorem State.Starting.react (k : Nat) (h : s.Starting r) : (State.react k s).Starting r := by
  induction k generalizing s with
  | zero => exact h
  | succ k ih =>
    have hstill : (State.standstill Config.roundFuel s).Starting r := h.sameButNodes (standstill_sameButNodes _ s)
    unfold State.react
    dsimp only
    split
    · exact hstill
    · next m hm => exact ih (hstill.applyMove hm)

theorem State.Starting.finish (h : s.Starting r) : s.finish.Starting r := by
  have hreact := State.Starting.react Config.moveFuel h
  unfold State.finish State.abandonFrame
  split
  · exact hreact.of_same rfl rfl rfl rfl
  · exact hreact

/-! ### Faults and good events -/

theorem State.Starting.logFault (h : s.Starting r) (kind : FaultKind) (node : Option NodeId) (stage : Option Nat)
    (action : FaultAction) : (s.logFault kind node stage action).Starting r := by
  unfold State.logFault State.storeFault
  split
  · cases hfirst : s.retained.firstFault with
    | some f =>
      simp only [Option.isNone_some]
      exact h.of_same rfl rfl rfl rfl
    | none =>
      simp only [Option.isNone_none]
      refine ⟨h.mark, rfl, h.startCause, h.lost, fun f hf => ?_, h.bsel, h.locked, h.queue, h.inFlight⟩
      exact absurd (h.firstFault f hf) (by simp [hfirst])
  · exact h.of_same rfl rfl rfl rfl

theorem State.Starting.startTrip (h : s.Starting r) {L : Level} (hL : L ≠ .run) : (s.startTrip L).Starting r := by
  rw [startTrip_eq hL]
  exact h.congr rfl h.locked nofun nofun

theorem State.Starting.enterHalted (h : s.Starting r) : s.enterHalted.Starting r := by
  rw [enterHalted_eq]
  exact h.congr rfl rfl nofun nofun

theorem State.Starting.faultOnPolicy (h : s.Starting r) (kind : FaultKind) (n : NodeId) : (s.faultOnPolicy kind n).Starting r := by
  rcases actionAt_cases s n with ha | ha | ⟨ha, -⟩
  · rw [faultOnPolicy_of_shed kind ha]
    exact (h.logFault ..).sameButNodes (shed_sameButNodes _ n)
  · rw [faultOnPolicy_of_tripped kind ha]
    exact ((h.logFault ..).sameButNodes (shed_sameButNodes _ n)).startTrip (effectiveTripLevel_ne_run s n)
  · rw [faultOnPolicy_of_halted kind ha]
    exact ((h.logFault ..).sameButNodes (fail_sameButNodes _ n)).enterHalted

theorem State.Starting.setNode (h : s.Starting r) (n : NodeId) (l : NodeLive) : (s.setNode n l).Starting r :=
  h.sameButNodes (setNode_sameButNodes s n l)

theorem State.Starting.backfeed (h : s.Starting r) (n : NodeId) : (s.backfeed n).Starting r := by
  unfold State.backfeed
  split
  · exact h
  · exact (h.logFault ..).setNode n _

theorem State.Starting.takeGood (h : s.Starting r) (n : NodeId) : (s.takeGood n).Starting r := by
  have hgood : (s.withGood n true).Starting r := h.setNode n _
  rcases takeGood_cases s n with heq | ⟨-, heq⟩ | heq <;> rw [heq]
  · exact hgood
  · exact hgood.sameButNodes (enterSettling_sameButNodes _ n)
  · exact hgood.backfeed n

theorem State.Starting.loseGood (h : s.Starting r) (n : NodeId) : (s.loseGood n).Starting r := by
  have hgood : (s.withGood n false).Starting r := h.setNode n _
  rcases loseGood_cases s n with heq | ⟨-, heq⟩ | ⟨-, heq⟩ <;> rw [heq]
  · exact hgood
  · exact hgood.faultOnPolicy _ n
  · exact hgood.sameButNodes (toOff_sameButNodes _ n)

theorem State.Starting.lookAtPg (h : s.Starting r) (rail : RailId) : (s.lookAtPg rail).Starting r := by
  rcases lookAtPg_cases s rail with heq | ⟨i, heq⟩ | heq | heq <;> rw [heq]
  · exact h
  · exact h.setNode _ _
  · exact (h.takeGood _).finish
  · exact (h.loseGood _).finish

theorem State.Starting.lookAtAllPg (h : s.Starting r) : s.lookAtAllPg.Starting r := by
  unfold State.lookAtAllPg
  generalize allRails = rails
  induction rails generalizing s with
  | nil => exact h
  | cons rail rails ih => exact ih (h.lookAtPg rail)

/-! ### Inputs -/

theorem State.Starting.actOn (h : s.Starting r) (acting : List (Fin 16)) : (s.actOn acting).Starting r := by
  have htold : (s.notifyWake acting).Starting r := by
    rw [notifyWake_eq]
    exact h.of_same rfl rfl rfl rfl
  unfold State.actOn
  cases highest (fun e => (s.wakeEntry e).targetOf) acting with
  | none => exact htold
  | some T => exact htold.arrive (q := wakeRequest T) rfl

theorem State.Starting.withWakes (h : s.Starting r) (w : Fin 16 → WakeLive) : (s.withWakes w).Starting r := by
  unfold State.withWakes
  exact h.of_same rfl rfl rfl rfl

theorem State.Starting.lookAtPbtn (h : s.Starting r) : s.lookAtPbtn.Starting r := by
  unfold State.lookAtPbtn
  dsimp only
  split_ifs
  · exact h.congr rfl h.locked h.queue h.inFlight
  · exact h
  · exact h.congr rfl h.locked h.queue h.inFlight

end

end Sys2Proof.Machine

/-! # The load completion event

How watching and the button filter start, and the part as it starts (R91, R124, R127, R162, R166, R170, R171). -/

namespace Sys2Proof.Machine

/-! ### What a start leaves of the rest -/

/-- The fields that the reactions, the good events, the wake lines and the requests of a start leave as they are. -/
def State.standingAtStart (s : State) : State := { s.apart with wakes := Vector.replicate 16 WakeLive.start }

theorem standingAtStart_of_apart {s t : State} (h : t.apart = s.apart) : t.standingAtStart = s.standingAtStart :=
  congrArg (fun u : State => { u with wakes := Vector.replicate 16 WakeLive.start }) h

theorem standingAtStart_active {s t : State} (h : t.standingAtStart = s.standingAtStart) : t.active = s.active :=
  (congrArg State.active h :)

theorem withWakes_standingAtStart (s : State) (w : Fin 16 → WakeLive) :
    (s.withWakes w).standingAtStart = s.standingAtStart := by
  unfold State.withWakes
  rfl

theorem lookAtPbtn_standingAtStart (s : State) : s.lookAtPbtn.standingAtStart = s.standingAtStart := by
  unfold State.lookAtPbtn
  dsimp only
  split_ifs <;> rfl

theorem startWatching_cases (s : State) (starts : Fin 16 → Bool) : ∃ w acting,
    s.startWatching (allEntries.filter starts) = (s.withWakes w).actOn acting := by
  obtain ⟨acting, -, heq⟩ := startWatching_eq s (nodup_filter_allEntries starts)
  exact ⟨_, acting, heq⟩

theorem startInputs_standingAtStart (s : State) : s.startInputs.standingAtStart = s.standingAtStart := by
  obtain ⟨w, acting, heq⟩ := startWatching_cases s.lookAtAllPg fun e => (s.lookAtAllPg.wakeEntry e).enabled
  unfold State.startInputs
  dsimp only
  rw [lookAtPbtn_standingAtStart, heq, standingAtStart_of_apart (actOn_apart _ acting), withWakes_standingAtStart,
    standingAtStart_of_apart (lookAtAllPg_apart s)]

theorem resume_standingAtStart (s : State) : s.resume.standingAtStart = s.standingAtStart := by
  unfold State.resume
  split
  · exact standingAtStart_of_apart ((finish_apart _).trans (apart_of_outside (arrive_outside s _)))
  · rfl

theorem State.Starting.startInputs {r : Retained} {s : State} (h : s.Starting r) : s.startInputs.Starting r := by
  obtain ⟨w, acting, heq⟩ := startWatching_cases s.lookAtAllPg fun e => (s.lookAtAllPg.wakeEntry e).enabled
  unfold State.startInputs
  dsimp only
  rw [heq]
  exact ((h.lookAtAllPg.withWakes w).actOn acting).lookAtPbtn

theorem State.Starting.resume {r : Retained} {s : State} (h : s.Starting r) : s.resume.Starting r := by
  unfold State.resume
  split
  · next T _ => exact (h.arrive (q := resumeRequest T) rfl).finish
  · exact h

/-! ### Watching and the button filter -/

theorem startWatching_startsEntries (s : State) (starts : Fin 16 → Bool) : ∃ e t : State, { e with wakes := s.wakes } = s ∧
    (∀ f, e.wakeLive f = if starts f = true then s.watchedAnew f else s.wakeLive f) ∧
    e.actedOn t (fun f => starts f = true ∧ (s.wakeEntry f).levelSense = true ∧ (s.wakeEntry f).debounce = 0 ∧
      s.lineLevel (s.wakeEntry f) = (s.wakeEntry f).matchesHigh ∧ (s.wakeLive f).pending = false ∧
      s.plat.phase ≠ .halted ∧ (s.wakeEntry f).armedAt s.plat.reference = true) ∧
    s.startWatching (allEntries.filter starts) = t := by
  obtain ⟨acting, hacting, heq⟩ := startWatching_eq s (nodup_filter_allEntries starts)
  refine ⟨_, _, withWakes_frame s _, fun f => ?_, actOn_actedOn _ acting fun f => ?_, heq⟩
  · simp only [withWakes_wakeLive, mem_filter_allEntries]
  · rw [hacting, mem_filter_allEntries]

theorem lookAtPbtn_filter (s : State) : s.lookAtPbtn = { s with button := { s.button with
    filter := (if s.inputs.pbtnHigh ≠ s.button.pressed then none
      else if s.button.filter = none then some ⟨!s.inputs.pbtnHigh, s.active.policy.buttonDebounce.toNat⟩
      else s.button.filter) } } := by
  unfold State.lookAtPbtn
  dsimp only
  have hdown : (!s.inputs.pbtnHigh) = s.button.pressed ↔ s.inputs.pbtnHigh ≠ s.button.pressed := by
    cases s.inputs.pbtnHigh <;> cases s.button.pressed <;> simp
  by_cases h : s.inputs.pbtnHigh ≠ s.button.pressed
  · rw [if_pos (hdown.2 h), if_pos h]
  · rw [if_neg (hdown.not.2 h), if_neg h]
    cases hf : s.button.filter with
    | none => rfl
    | some i =>
      simp only [Option.isSome_some, if_true, reduceCtorEq, if_false]
      rw [← hf]

/-! ### The start -/

/-- The part at steps 3 to 6 of a start, before its inputs are looked at. -/
def State.loaded (s : State) : State := s.loadImage.checkRetained.startBlocks

theorem completeLoad_eq (s : State) : s.completeLoad = s.loaded.startInputs.finish.resume := rfl

theorem loaded_starting (s : State) : s.loaded.Starting s.loaded.retained := by
  have hvalid : s.loaded.retained.valid = true := checkRetained_valid s.loadImage
  obtain ⟨hmark, hcheck⟩ := Bool.and_eq_true_iff.1 hvalid
  exact ⟨hmark, hcheck, rfl, rfl, fun _ => id, rfl, rfl, nofun, nofun⟩

theorem completeLoad_starting (s : State) : s.completeLoad.Starting s.loaded.retained :=
  (loaded_starting s).startInputs.finish.resume

theorem completeLoad_standing (s : State) : s.completeLoad.standingAtStart = s.loaded.standingAtStart := by
  rw [completeLoad_eq, resume_standingAtStart, standingAtStart_of_apart (finish_apart _), startInputs_standingAtStart]

theorem loaded_retained_of_valid {s : State} (h : s.retained.valid = true) :
    s.loaded.retained = { s.retained with startCause := s.causeOfStart } := if_pos h

theorem loaded_retained_of_invalid {s : State} (h : ¬s.retained.valid = true) :
    s.loaded.retained = Retained.defaults s.causeOfStart := if_neg h

theorem loaded_retained_kept (s : State) : s.loaded.retained.startCause = s.causeOfStart ∧
    s.loaded.retained.lost = (if s.retained.valid then s.retained.lost else true) ∧
    (s.retained.valid = true → ∀ f, s.retained.firstFault = some f → s.loaded.retained.firstFault = some f) ∧
    (s.retained.valid = true → s.loaded.retained.bsel = s.retained.bsel) := by
  by_cases h : s.retained.valid = true
  · rw [loaded_retained_of_valid h, if_pos h]
    exact ⟨rfl, rfl, fun _ _ => id, fun _ => rfl⟩
  · rw [loaded_retained_of_invalid h, if_neg h]
    exact ⟨rfl, rfl, fun hv => absurd hv h, fun hv => absurd hv h⟩

theorem resume_of_none {s : State} (h : s.resumeTarget = none) : s.resume = s := by
  rw [State.resume, h]

theorem resume_of_some {s : State} {T : Level} (h : s.resumeTarget = some T) :
    s.resume = (s.arrive (plainRequest .resume .normal T)).finish := by
  rw [State.resume, h]
  rfl

/-- The request of the resume policy (R171). -/
theorem resume_cases (s : State) :
    (s.active.policy.resumePolicy = 0 → s.resume = s) ∧
    (s.active.policy.resumePolicy = 1 → s.resume = (s.arrive (plainRequest .resume .normal .standby)).finish) ∧
    (s.active.policy.resumePolicy = 2 → s.resume = (s.arrive (plainRequest .resume .normal .run)).finish) ∧
    (s.active.policy.resumePolicy = 3 → s.retained.lastSettled = none →
      s.resume = (s.arrive (plainRequest .resume .normal .standby)).finish) ∧
    (s.active.policy.resumePolicy = 3 → ∀ L, s.retained.lastSettled = some L →
      s.resume = (s.arrive (plainRequest .resume .normal L)).finish) := by
  have htarget : s.resumeTarget = if s.active.policy.resumePolicy = 1 then some .standby
      else if s.active.policy.resumePolicy = 2 then some .run
      else if s.active.policy.resumePolicy = 3 then some (s.retained.lastSettled.getD .standby) else none := rfl
  refine ⟨fun h => resume_of_none ?_, fun h => resume_of_some ?_, fun h => resume_of_some ?_, fun h hl => resume_of_some ?_,
    fun h L hl => resume_of_some ?_⟩
  · rw [htarget, h]; rfl
  · rw [htarget, h]; rfl
  · rw [htarget, h]; rfl
  · rw [htarget, h, hl]; rfl
  · rw [htarget, h, hl]; rfl

/-- Settles O14: the inputs by the wake and button filters, the rest by what the reactions and requests of a start leave. -/
theorem loadCompletionStartsThePart : Obligations.LoadCompletionStartsThePart := by
  refine ⟨startWatching_startsEntries, lookAtPbtn_filter, fun s => ⟨fun hp => ?_, fun hp =>
    congrArg Host.Outcome.next (if_neg hp)⟩⟩
  intro image cause kept started up asks
  have hstarted : started = s.loaded := rfl
  have himage : s.loaded.active = image := rfl
  have hpgActive := (standingAtStart_active (standingAtStart_of_apart (lookAtAllPg_apart s.loaded))).trans himage
  have hentries : (fun e => (s.loaded.lookAtAllPg.wakeEntry e).enabled) = fun e => image.wake[e].enabled := by
    unfold State.wakeEntry
    rw [hpgActive]
  have hup : up = s.loaded.startInputs.finish := by
    unfold State.startInputs
    dsimp only
    rw [hentries, ← hstarted]
  have hupActive : up.active = image := by
    have hstanding : s.loaded.startInputs.finish.standingAtStart = s.loaded.standingAtStart := by
      rw [standingAtStart_of_apart (finish_apart _), startInputs_standingAtStart]
    rw [hup]
    exact (standingAtStart_active hstanding).trans himage
  have hload : s.completeLoad = up.resume := by rw [completeLoad_eq, hup]
  have hexec : exec .loadCompletion s = .next s.completeLoad := congrArg Host.Outcome.next (if_pos hp)
  have hstanding := completeLoad_standing s
  have hstarting := completeLoad_starting s
  obtain ⟨hstay, hstandby, hrun, hlastNone, hlast⟩ := resume_cases up
  rw [hupActive] at hstay hstandby hrun hlastNone hlast
  rw [← hload] at hstay hstandby hrun hlastNone hlast
  generalize s.completeLoad = t at hexec hstanding hstarting hstay hstandby hrun hlastNone hlast
  obtain ⟨hcause, hlost, hfirst, hbsel⟩ := loaded_retained_kept s
  refine ⟨t, hexec, hstay, hstandby, hrun, hlastNone, hlast, (congrArg State.power hstanding :),
    (congrArg State.stepFour hstanding :), (congrArg State.active hstanding :),
    (congrArg State.staged hstanding :).trans (congrArg State.active hstanding :).symm,
    (congrArg State.loadedBank hstanding :), (congrArg State.imageBad hstanding :), (congrArg State.bank0 hstanding :),
    (congrArg State.bank1 hstanding :), (congrArg State.storeJob hstanding :), hstarting.mark, hstarting.checkGood,
    hstarting.startCause.trans hcause, hstarting.lost.trans hlost, fun hv f hf => hstarting.firstFault f (hfirst hv f hf),
    fun hv => hstarting.bsel.trans (hbsel hv), (congrArg State.uptime hstanding :), (congrArg State.address hstanding :),
    (congrArg State.pointer hstanding :), (congrArg State.inputs hstanding :), (congrArg State.hostLock hstanding :),
    hstarting.locked, (congrArg (fun u : State => u.monitor.log) hstanding :),
    (congrArg (fun u : State => u.monitor.postCount) hstanding :),
    (congrArg (fun u : State => u.monitor.recoveryCount) hstanding :),
    (congrArg (fun u : State => u.monitor.holding) hstanding :), fun p => ?_⟩
  have hmailbox : t.mailbox = ⟨Mailbox.start, Mailbox.start⟩ := (congrArg State.mailbox hstanding :)
  have hmasks : t.masks = ⟨0, 0⟩ := (congrArg State.masks hstanding :)
  rw [hmailbox, hmasks]
  cases p <;> exact ⟨rfl, rfl, rfl⟩

end Sys2Proof.Machine

/-! # The nodes come to a standstill

From a state whose active set has no cycle the rounds of the node controllers end within the bound (R16, R21, R22, R30, R31, log 22). First the unwanted nodes go, each once and none before its dependents; then the wanted ones find their places, each after its prerequisites. -/

namespace Sys2Proof.Machine

/-! ### One turn -/

/-- WAITING, HELD and READY: placed, and not energized. -/
def NodeState.waits : NodeState → Bool
  | .waiting | .held | .ready => true
  | _ => false

/-- Energized or draining: what holds a prerequisite up (R31). -/
def NodeState.powered (st : NodeState) : Bool := st.energized || st == .draining

/-- A node's turn: it stands, it is placed, or, unwanted, it leaves. -/
inductive State.Turn (s : State) (n : NodeId) : State → Prop
  | stands (h : s.nodeMove n = none) : s.Turn n s
  | places (t : State) (moves : s.nodeMove n ≠ none) (wanted : s.wanted n = true) (was : (s.nodeState n).powered = false)
      (only : s.onlyNode t n)
      (now : t.nodeState n = s.placement n) : s.Turn n t
  | leaves (t : State) (moves : s.nodeMove n ≠ none) (unwanted : s.wanted n = false)
      (was : (s.nodeState n).waits = true ∨ (s.nodeState n).energized = true)
      (only : s.onlyNode t n)
      (now : t.nodeState n = if (s.nodeState n).energized = true ∧ isGate n = false then .draining else .off) : s.Turn n t

theorem placement_waits (s : State) (n : NodeId) : (s.placement n).waits = true := by
  unfold State.placement
  dsimp only
  split_ifs <;> rfl

theorem not_energized_of_waits {st : NodeState} (h : st.waits = true) : st.energized = false := by
  cases st <;> revert h <;> decide

theorem not_powered_of_waits {st : NodeState} (h : st.waits = true) : st.powered = false := by
  cases st <;> revert h <;> decide

theorem turn_nodeTurn (s : State) (n : NodeId) : s.Turn n (s.nodeTurn n) := by
  cases hm : s.nodeMove n with
  | none =>
    rw [nodeTurn_of_none hm]
    exact .stands hm
  | some m =>
    have hmoves : s.nodeMove n ≠ none := by rw [hm]; nofun
    rw [nodeTurn_of_some hm]
    rcases (nodeMove_eq_some_iff s n m).1 hm with ⟨hst, hw, rfl⟩ | ⟨hst, hw, rfl⟩ | ⟨hst, hw, hne, rfl⟩ | ⟨hst, hw, rfl⟩
    · have hne : s.nodeState n ≠ s.placement n := fun e => placement_ne_off s n (e ▸ hst)
      rw [State.applyNodeMove, place_eq hne]
      exact .places _ hmoves hw (by rw [hst]; rfl) (withNode_onlyNode ..) (by simp [State.nodeState])
    · have hwaits : (s.nodeState n).waits = true := by rcases hst with e | e | e <;> rw [e] <;> rfl
      have hne : s.nodeState n ≠ .off := fun e => by rw [e] at hwaits; cases hwaits
      rw [State.applyNodeMove, toOff_eq hne]
      exact .leaves _ hmoves hw (.inl hwaits) (withNode_onlyNode ..)
        (by rw [nodeState_eq, withNode_node_self, if_neg (by simp [not_energized_of_waits hwaits])]; rfl)
    · rw [State.applyNodeMove, place_eq (Ne.symm hne)]
      exact .places _ hmoves hw (by rcases hst with e | e | e <;> rw [e] <;> rfl) (withNode_onlyNode ..) (by simp [State.nodeState])
    · have hen : (s.nodeState n).energized = true := (energized_iff _).2 (hst.imp id (Or.imp id And.left))
      rw [State.applyNodeMove, drop_eq hen]
      refine .leaves _ hmoves hw (.inr hen) (withNode_onlyNode ..) ?_
      rw [nodeState_eq, withNode_node_self]
      cases hg : isGate n
      · rw [droppedRecord_of_rail hg, if_pos ⟨hen, rfl⟩]
      · rw [droppedRecord_of_gate hg, if_neg (by simp)]
        rfl

section

variable {s t : State} {n m : NodeId}

theorem State.Turn.node_of_ne (h : s.Turn n t) (hm : m ≠ n) : t.node m = s.node m := by
  cases h
  case stands => rfl
  case places only _ => exact only.2 m hm
  case leaves only _ => exact only.2 m hm

theorem State.Turn.nodeState_of_ne (h : s.Turn n t) (hm : m ≠ n) : t.nodeState m = s.nodeState m :=
  congrArg NodeLive.state (h.node_of_ne hm)

theorem State.Turn.sameButNodes (h : s.Turn n t) : s.sameButNodes t := by
  cases h
  case stands => rfl
  case places only _ => exact only.1
  case leaves only _ => exact only.1

theorem State.Turn.active (h : s.Turn n t) : t.active = s.active := sameButNodes_active h.sameButNodes

theorem State.Turn.plat (h : s.Turn n t) : t.plat = s.plat := sameButNodes_plat h.sameButNodes

theorem not_failed_of_wanted (h : s.wanted n = true) : s.nodeState n ≠ .failed := ((wanted_iff s n).1 h).1

/-- No turn makes a node FAILED or takes it out of FAILED. -/
theorem State.Turn.failed_iff (h : s.Turn n t) (m : NodeId) : t.nodeState m = .failed ↔ s.nodeState m = .failed := by
  by_cases hm : m = n
  · subst hm
    cases h
    case stands => rfl
    case places wanted _ _ now =>
      have hwaits := placement_waits s m
      rw [← now] at hwaits
      exact ⟨fun e => absurd hwaits (by rw [e]; decide), fun e => absurd e (not_failed_of_wanted wanted)⟩
    case leaves was _ now =>
      refine ⟨fun e => ?_, fun e => ?_⟩
      · rw [now] at e
        split at e <;> cases e
      · rw [e] at was
        exact absurd was (by decide)
  · rw [h.nodeState_of_ne hm]

theorem wanted_congr (hplat : t.plat = s.plat) (hactive : t.active = s.active)
    (hfailed : t.nodeState n = .failed ↔ s.nodeState n = .failed) : t.wanted n = s.wanted n := by
  have hrecord : t.record n = s.record n := by rw [State.record, State.record, hactive]
  rw [Bool.eq_iff_iff, wanted_iff, wanted_iff, hplat, hrecord, Ne, hfailed]

/-- Which nodes are wanted is the same all through a standstill. -/
theorem State.Turn.wanted (h : s.Turn n t) (m : NodeId) : t.wanted m = s.wanted m :=
  wanted_congr h.plat h.active (h.failed_iff m)

theorem powered_iff (st : NodeState) : st.powered = true ↔ st.energized = true ∨ st = .draining := by
  cases st <;> decide

/-- Nothing is energized by a turn. -/
theorem State.Turn.powered (h : s.Turn n t) (hm : (t.nodeState m).powered = true) : (s.nodeState m).powered = true := by
  by_cases hmn : m = n
  · subst hmn
    cases h
    case stands => exact hm
    case places now =>
      rw [now, not_powered_of_waits (placement_waits s m)] at hm
      cases hm
    case leaves now =>
      rw [now] at hm
      split at hm
      · next hen => exact (powered_iff _).2 (.inl hen.1)
      · cases hm
  · rwa [h.nodeState_of_ne hmn] at hm

theorem heldUp_iff_powered (s : State) (n : NodeId) :
    s.heldUp n = true ↔ ∃ m, s.active.lists n m ∧ (s.nodeState m).powered = true := by
  simp only [heldUp_iff, powered_iff, ConfigSet.lists, and_assoc]
  rfl

theorem State.Turn.heldUp (h : s.Turn n t) (hm : t.heldUp m = true) : s.heldUp m = true := by
  rw [heldUp_iff_powered] at hm ⊢
  obtain ⟨k, hlists, hpowered⟩ := hm
  exact ⟨k, h.active ▸ hlists, h.powered hpowered⟩

end

/-! ### Many turns -/

/-- Turns of nodes within a set. -/
def State.Turns (p : NodeId → Prop) : State → State → Prop :=
  Relation.ReflTransGen fun s t => ∃ n, p n ∧ s.Turn n t

/-- What every turn keeps, turns keep. -/
theorem State.Turns.keeps {P : State → Prop} {p : NodeId → Prop} (hP : ∀ s t n, p n → s.Turn n t → P s → P t) {s t : State}
    (h : s.Turns p t) (hs : P s) : P t := by
  induction h with
  | refl => exact hs
  | tail _ hstep ih =>
    obtain ⟨n, hp, hturn⟩ := hstep
    exact hP _ _ n hp hturn ih

theorem turns_foldl (p : NodeId → Prop) (ns : List NodeId) (hp : ∀ n ∈ ns, p n) (s : State) :
    s.Turns p (ns.foldl State.nodeTurn s) := by
  induction ns generalizing s with
  | nil => exact .refl
  | cons n ns ih =>
    exact .head ⟨n, hp n List.mem_cons_self, turn_nodeTurn s n⟩ (ih (fun m hm => hp m (List.mem_cons_of_mem n hm)) _)

/-- One round of the node controllers. -/
def State.round (s : State) : State := allNodes.foldl State.nodeTurn s

/-- In a round a node acts once, after some of the others and before the rest. -/
theorem round_at (s : State) (n : NodeId) : ∃ u, s.Turns (· ≠ n) u ∧ (u.nodeTurn n).Turns (· ≠ n) s.round := by
  obtain ⟨before, after, hsplit⟩ := List.append_of_mem (mem_allNodes n)
  have hnodup : (before ++ n :: after).Nodup := hsplit ▸ List.nodup_finRange 32
  have hbefore : ∀ m ∈ before, m ≠ n := fun m hm e => (List.nodup_append.1 hnodup).2.2 m hm n List.mem_cons_self e
  have hafter : ∀ m ∈ after, m ≠ n := fun m hm e =>
    (List.nodup_cons.1 (List.nodup_append.1 hnodup).2.1).1 (e ▸ hm)
  refine ⟨before.foldl State.nodeTurn s, turns_foldl _ before hbefore s, ?_⟩
  rw [State.round, hsplit, List.foldl_append]
  exact turns_foldl _ after hafter _

section

variable {p : NodeId → Prop} {s t : State}

theorem State.Turns.any (h : s.Turns p t) : s.Turns (fun _ => True) t :=
  Relation.ReflTransGen.mono (fun _ _ ⟨n, _, hn⟩ => ⟨n, trivial, hn⟩) s t h

theorem State.Turns.nodeState {n : NodeId} (h : s.Turns (· ≠ n) t) : t.nodeState n = s.nodeState n :=
  h.keeps (P := fun u => u.nodeState n = s.nodeState n)
    (fun _ _ _ hm hturn hu => (hturn.nodeState_of_ne (Ne.symm hm)).trans hu) rfl

theorem State.Turns.active (h : s.Turns p t) : t.active = s.active :=
  h.keeps (P := fun u => u.active = s.active) (fun _ _ _ _ hturn hu => hturn.active.trans hu) rfl

theorem State.Turns.wanted (h : s.Turns p t) (n : NodeId) : t.wanted n = s.wanted n :=
  h.keeps (P := fun u => u.wanted n = s.wanted n) (fun _ _ _ _ hturn hu => (hturn.wanted n).trans hu) rfl

theorem State.Turns.heldUp {n : NodeId} (h : s.Turns p t) (hn : s.heldUp n = false) : t.heldUp n = false :=
  h.keeps (P := fun u => u.heldUp n = false)
    (fun _ _ _ _ hturn hu => by rw [← Bool.not_eq_true] at hu ⊢; exact fun hv => hu (hturn.heldUp hv)) hn

end

/-! ### The unwanted nodes go -/

/-- No unwanted node has a move. -/
def State.calm (s : State) : Prop := ∀ n, s.wanted n = false → s.nodeMove n = none

/-- The unwanted nodes that have not left. -/
def State.leaving (s : State) : Finset NodeId :=
  Finset.univ.filter fun n => s.wanted n = false ∧ ((s.nodeState n).waits = true ∨ (s.nodeState n).energized = true)

theorem mem_leaving (s : State) (n : NodeId) : n ∈ s.leaving ↔
    s.wanted n = false ∧ ((s.nodeState n).waits = true ∨ (s.nodeState n).energized = true) := by
  simp [State.leaving]

theorem nodeMove_of_unwanted {s : State} {n : NodeId} (h : s.wanted n = false) : s.nodeMove n = none ↔
    (s.nodeState n).waits = false ∧ ((s.nodeState n).energized = true → s.nodeState n = .on ∧ s.heldUp n = true) := by
  unfold State.nodeMove
  cases hst : s.nodeState n <;> cases hh : s.heldUp n <;> simp [h, NodeState.waits, NodeState.energized]

theorem State.Turn.leaving {s t : State} {n : NodeId} (h : s.Turn n t) : t.leaving ⊆ s.leaving := by
  intro m hm
  rw [mem_leaving] at hm ⊢
  obtain ⟨hw, hst⟩ := hm
  rw [h.wanted] at hw
  refine ⟨hw, ?_⟩
  by_cases hmn : m = n
  · subst hmn
    cases h
    case stands => exact hst
    case places wanted _ _ _ => rw [hw] at wanted; cases wanted
    case leaves was _ _ => exact was
  · rwa [h.nodeState_of_ne hmn] at hst

theorem State.Turns.leaving {p : NodeId → Prop} {s t : State} (h : s.Turns p t) : t.leaving ⊆ s.leaving :=
  h.keeps (P := fun u => u.leaving ⊆ s.leaving) (fun _ _ _ _ hturn hu => hturn.leaving.trans hu) (Finset.Subset.refl _)

/-- A round that begins with a move due at an unwanted node takes one away. -/
theorem leaving_round {s : State} (h : ¬s.calm) : s.round.leaving ⊂ s.leaving := by
  unfold State.calm at h
  push Not at h
  obtain ⟨n, hw, hmove⟩ := h
  obtain ⟨u, hbefore, hafter⟩ := round_at s n
  have hstate := hbefore.nodeState
  have hwanted := (hbefore.wanted n).trans hw
  rw [Ne, nodeMove_of_unwanted hw] at hmove
  have hmember : n ∈ s.leaving := by
    rw [mem_leaving]
    refine ⟨hw, ?_⟩
    by_contra hneither
    simp only [not_or, Bool.not_eq_true] at hneither
    exact hmove ⟨hneither.1, fun he => absurd he (by simp [hneither.2])⟩
  have hgone : n ∉ (u.nodeTurn n).leaving := by
    rw [mem_leaving]
    rintro ⟨-, hst⟩
    have hturn := turn_nodeTurn u n
    generalize u.nodeTurn n = v at hturn hst
    cases hturn
    case stands hnone =>
      rw [nodeMove_of_unwanted hwanted, hstate] at hnone
      refine hmove ⟨hnone.1, fun he => ⟨(hnone.2 he).1, ?_⟩⟩
      by_contra hheld
      have hfree := hbefore.heldUp (by simpa using hheld : s.heldUp n = false)
      rw [(hnone.2 he).2] at hfree
      cases hfree
    case places wanted _ _ _ => rw [hwanted] at wanted; cases wanted
    case leaves now =>
      rw [now] at hst
      revert hst
      split <;> decide
  have hsubset : s.round.leaving ⊆ s.leaving :=
    Finset.Subset.trans hafter.leaving (Finset.Subset.trans (turn_nodeTurn u n).leaving hbefore.leaving)
  have hne : s.round.leaving ≠ s.leaving := fun e => hgone (hafter.leaving (by rw [e]; exact hmember))
  exact Finset.ssubset_iff_subset_ne.2 ⟨hsubset, hne⟩

end Sys2Proof.Machine

/-! # The wanted nodes find their places

In a calm state only wanted nodes move, each to the place that its prerequisites give it. The nodes that stand on nothing that moves grow by every round (R16, R21, log 22). -/

namespace Sys2Proof.Machine

/-! ### Calm states -/

theorem calm_turn {s t : State} {n : NodeId} (h : s.Turn n t) (hs : s.calm) : t.calm := by
  cases h
  case stands => exact hs
  case leaves moves unwanted _ _ _ => exact absurd (hs n unwanted) moves
  case places moves wanted was only now =>
    have hturn : s.Turn n t := .places t moves wanted was only now
    intro m hm
    rw [hturn.wanted] at hm
    have hmn : m ≠ n := fun e => by rw [e, wanted] at hm; cases hm
    obtain ⟨hwaits, henergized⟩ := (nodeMove_of_unwanted hm).1 (hs m hm)
    rw [nodeMove_of_unwanted ((hturn.wanted m).trans hm), hturn.nodeState_of_ne hmn]
    refine ⟨hwaits, fun he => ⟨(henergized he).1, ?_⟩⟩
    obtain ⟨k, hlists, hpowered⟩ := (heldUp_iff_powered s m).1 (henergized he).2
    have hkn : k ≠ n := fun e => by rw [e, was] at hpowered; cases hpowered
    exact (heldUp_iff_powered t m).2 ⟨k, hturn.active ▸ hlists, by rwa [hturn.nodeState_of_ne hkn]⟩

theorem calm_turns {p : NodeId → Prop} {s t : State} (h : s.Turns p t) (hs : s.calm) : t.calm :=
  h.keeps (fun _ _ _ _ hturn hu => calm_turn hturn hu) hs

theorem nodeMove_of_wanted {s : State} {n : NodeId} (h : s.wanted n = true) :
    s.nodeMove n = none ↔ (s.nodeState n).powered = true ∨ s.nodeState n = s.placement n := by
  have hfailed := not_failed_of_wanted h
  have hoff := placement_ne_off s n
  unfold State.nodeMove
  cases hst : s.nodeState n
  case failed => exact absurd hst hfailed
  case off => simp [h, NodeState.powered, NodeState.energized, hoff.symm]
  all_goals simp [h, NodeState.powered, NodeState.energized, eq_comm (a := s.placement n)]

theorem lists_of_wanted {s : State} {n q : NodeId} (h : s.wanted n = true) (hq : q ∈ (s.record n).prereqs) :
    s.active.lists q n := ⟨used_of_wanted h, hq⟩

/-- The place of a node depends on its prerequisites alone. -/
theorem placement_congr {s t : State} {n : NodeId} (hactive : t.active = s.active)
    (h : ∀ q ∈ (s.record n).prereqs, t.nodeState q = s.nodeState q) : t.placement n = s.placement n := by
  have hrecord : t.record n = s.record n := by rw [State.record, State.record, hactive]
  have hany : ∀ f : NodeState → Bool, ((s.record n).prereqs.any fun q => f (t.nodeState q)) =
      (s.record n).prereqs.any fun q => f (s.nodeState q) := fun f => by
    rw [Bool.eq_iff_iff, List.any_eq_true, List.any_eq_true]
    exact exists_congr fun q => and_congr_right fun hq => by rw [h q hq]
  unfold State.placement
  rw [hrecord]
  dsimp only
  rw [hany fun st => st == .failed || st == .held, hany fun st => st != .on]

/-! ### Nodes on firm ground -/

/-- Neither the node nor anything that it stands on has a move. -/
def State.founded (s : State) (n : NodeId) : Prop := ∀ m, Relation.ReflTransGen s.active.lists m n → s.nodeMove m = none

theorem State.founded.below {s : State} {m n : NodeId} (h : s.founded n) (hm : Relation.ReflTransGen s.active.lists m n) :
    s.founded m := fun k hk => h k (hk.trans hm)

theorem founded_turn {s t : State} {k n : NodeId} (h : s.Turn k t) (hs : s.calm) (hn : s.founded n) : t.founded n := by
  have hcalm := calm_turn h hs
  intro m hm
  rw [h.active] at hm
  have hmove := hn m hm
  by_cases hmoves : s.nodeMove k = none
  · cases h
    case stands => exact hmove
    case places moves _ _ _ _ => exact absurd hmoves moves
    case leaves moves _ _ _ _ => exact absurd hmoves moves
  have hsame : ∀ q, Relation.ReflTransGen s.active.lists q n → t.nodeState q = s.nodeState q :=
    fun q hq => h.nodeState_of_ne fun e => hmoves (e ▸ hn q hq)
  cases hw : s.wanted m
  · exact hcalm m ((h.wanted m).trans hw)
  · rw [nodeMove_of_wanted hw] at hmove
    rw [nodeMove_of_wanted ((h.wanted m).trans hw), hsame m hm,
      placement_congr h.active fun q hq => hsame q (.head (lists_of_wanted hw hq) hm)]
    exact hmove

theorem founded_turns {p : NodeId → Prop} {s t : State} {n : NodeId} (h : s.Turns p t) (hs : s.calm) (hn : s.founded n) :
    t.founded n :=
  (h.keeps (P := fun u => u.calm ∧ u.founded n)
    (fun _ _ _ _ hturn hu => ⟨calm_turn hturn hu.1, founded_turn hturn hu.1 hu.2⟩) ⟨hs, hn⟩).2

/-! ### A round adds firm ground -/

/-- No used node stands on itself (R16). -/
def acyclic (c : ConfigSet) : Prop := ∀ n, ¬Relation.TransGen c.lists n n

/-- Where some node moves, one moves that stands on nothing that does. -/
theorem exists_first_mover {s : State} (hc : acyclic s.active) (h : ∃ n, s.nodeMove n ≠ none) :
    ∃ n, s.nodeMove n ≠ none ∧ ∀ m, Relation.TransGen s.active.lists m n → s.nodeMove m = none := by
  have : IsTrans NodeId (Relation.TransGen s.active.lists) := ⟨fun _ _ _ => Relation.TransGen.trans⟩
  have : Std.Irrefl (Relation.TransGen s.active.lists) := ⟨hc⟩
  have hwf := Finite.wellFounded_of_trans_of_irrefl (Relation.TransGen s.active.lists)
  obtain ⟨n, hn, hmin⟩ := hwf.has_min {n | s.nodeMove n ≠ none} h
  exact ⟨n, hn, fun m hm => by_contra fun hmoves => hmin m hmoves hm⟩

/-- After its turn a wanted node stands, its prerequisites being other nodes. -/
theorem nodeTurn_stands {s : State} {n : NodeId} (hc : acyclic s.active) (hs : s.calm) :
    (s.nodeTurn n).nodeMove n = none := by
  have hturn := turn_nodeTurn s n
  generalize s.nodeTurn n = t at hturn
  have hactive := hturn.active
  have hsame : ∀ m, m ≠ n → t.nodeState m = s.nodeState m := fun m hm => hturn.nodeState_of_ne hm
  have hwanted := hturn.wanted n
  cases hturn
  case stands h => exact h
  case leaves moves unwanted _ _ _ => exact absurd (hs n unwanted) moves
  case places wanted _ _ now =>
    rw [nodeMove_of_wanted (hwanted.trans wanted), now]
    refine .inr (placement_congr hactive fun q hq => hsame q fun e => hc n (.single ?_)).symm
    rw [e] at hq
    exact lists_of_wanted wanted hq

open Classical in
/-- The nodes on firm ground. -/
noncomputable def State.ground (s : State) : Finset NodeId := Finset.univ.filter s.founded

theorem mem_ground (s : State) (n : NodeId) : n ∈ s.ground ↔ s.founded n := by
  simp [State.ground]

theorem turns_round (s : State) : s.Turns (fun _ => True) s.round := turns_foldl _ allNodes (fun _ _ => trivial) s

theorem ground_round {s : State} (hc : acyclic s.active) (hs : s.calm) (h : s.still = false) : s.ground ⊂ s.round.ground := by
  have hmover : ∃ n, s.nodeMove n ≠ none := by
    by_contra hnone
    push Not at hnone
    rw [(still_iff s).2 hnone] at h
    cases h
  obtain ⟨n, hmoves, hbelow⟩ := exists_first_mover hc hmover
  obtain ⟨u, hbefore, hafter⟩ := round_at s n
  have hcalm := calm_turns hbefore hs
  have hcu : acyclic u.active := hbefore.active ▸ hc
  have hturn := turn_nodeTurn u n
  have hfounded : (u.nodeTurn n).founded n := by
    intro m hm
    rw [hturn.active, hbefore.active] at hm
    rcases Relation.reflTransGen_iff_eq_or_transGen.1 hm with rfl | htrans
    · exact nodeTurn_stands hcu hcalm
    · have hm : s.founded m := fun k hk => hbelow k (Relation.TransGen.trans_right hk htrans)
      exact founded_turn hturn hcalm (founded_turns hbefore hs hm) m .refl
  refine Finset.ssubset_iff_subset_ne.2 ⟨fun m hm => ?_, fun e => ?_⟩
  · exact (mem_ground _ m).2 (founded_turns (turns_round s) hs ((mem_ground s m).1 hm))
  · have hn := (mem_ground _ n).2 (founded_turns hafter (calm_turn hturn hcalm) hfounded)
    rw [← e] at hn
    exact hmoves ((mem_ground s n).1 hn n .refl)

theorem acyclic_round {s : State} (hc : acyclic s.active) : acyclic s.round.active := by
  rw [(turns_round s).active]
  exact hc

/-! ### The bound -/

theorem still_of_ground {s : State} (h : 32 ≤ s.ground.card) : s.still = true := by
  have hall : s.ground = Finset.univ := Finset.eq_univ_of_card _ (le_antisymm (Finset.card_le_univ _) h)
  exact (still_iff s).2 fun n => (mem_ground s n).1 (hall ▸ Finset.mem_univ n) n .refl

theorem standstill_succ (k : Nat) (s : State) :
    State.standstill (k + 1) s = if s.still then s else State.standstill k s.round := rfl

theorem standstill_of_calm {k : Nat} {s : State} (hc : acyclic s.active) (hs : s.calm) (h : 32 ≤ k + s.ground.card) :
    (State.standstill k s).still = true := by
  induction k generalizing s with
  | zero =>
    have hall : 32 ≤ s.ground.card := by omega
    exact (still_of_ground hall :)
  | succ k ih =>
    rw [standstill_succ]
    split
    · assumption
    · next hstill =>
      have hcard := Finset.card_lt_card (ground_round hc hs (by simpa using hstill))
      exact ih (acyclic_round hc) (calm_turns (turns_round s) hs) (by omega)

theorem standstill_of_leaving {k : Nat} {s : State} (hc : acyclic s.active) (h : s.leaving.card + 32 ≤ k) :
    (State.standstill k s).still = true := by
  induction k generalizing s with
  | zero => omega
  | succ k ih =>
    by_cases hs : s.calm
    · exact standstill_of_calm hc hs (by omega)
    · rw [standstill_succ]
      split
      · assumption
      · have hcard := Finset.card_lt_card (leaving_round hs)
        exact ih (acyclic_round hc) (by omega)

/-- The node controllers come to a standstill within the bound. -/
theorem standstill_still {s : State} (hc : acyclic s.active) : (State.standstill Config.roundFuel s).still = true := by
  have hcard : s.leaving.card ≤ 32 := Finset.card_le_univ _
  have hfuel : Config.roundFuel = 100 := rfl
  exact standstill_of_leaving hc (by omega)

end Sys2Proof.Machine

/-! # The moves of an event end

A measure that every move lowers: the legs that the queue and the transition in flight can still give, and the nodes that can still be granted. It starts below the bound (R45, R57, R64, R71, R72, R83, log 22). -/

namespace Sys2Proof.Machine

/-! ### What a standstill leaves of the measure -/

/-- The rails, or the gates, that are neither energized nor draining. -/
def State.unrisen (s : State) (gate : Bool) : Finset NodeId :=
  Finset.univ.filter fun n => isGate n = gate ∧ (s.nodeState n).powered = false

theorem mem_unrisen (s : State) (gate : Bool) (n : NodeId) :
    n ∈ s.unrisen gate ↔ isGate n = gate ∧ (s.nodeState n).powered = false := by
  simp [State.unrisen]

theorem unrisen_congr {s t : State} {gate : Bool}
    (h : ∀ n, isGate n = gate → (t.nodeState n).powered = (s.nodeState n).powered) : t.unrisen gate = s.unrisen gate := by
  ext n
  rw [mem_unrisen, mem_unrisen]
  exact and_congr_right fun hg => by rw [h n hg]

theorem card_unrisen_le (s : State) (gate : Bool) : (s.unrisen gate).card ≤ if gate then 8 else 24 := by
  have hsubset : s.unrisen gate ⊆ Finset.univ.filter fun n => isGate n = gate := fun n hn => by
    rw [mem_unrisen] at hn
    simpa using hn.1
  refine (Finset.card_le_card hsubset).trans ?_
  cases gate <;> decide

theorem turns_standstill (k : Nat) (s : State) : s.Turns (fun _ => True) (State.standstill k s) := by
  induction k generalizing s with
  | zero => exact .refl
  | succ k ih =>
    rw [standstill_succ]
    split
    · exact .refl
    · exact (turns_round s).trans (ih s.round)

section

variable {p : NodeId → Prop} {s t : State}

/-- A rail that leaves energized drains, and none comes back. -/
theorem State.Turn.rail_powered {n m : NodeId} (h : s.Turn n t) (hm : isGate m = false) :
    (t.nodeState m).powered = (s.nodeState m).powered := by
  by_cases hmn : m = n
  · subst hmn
    cases h
    case stands => rfl
    case places was _ now => rw [now, not_powered_of_waits (placement_waits s m), was]
    case leaves was _ now =>
      rw [now]
      rcases was with hwaits | hen
      · rw [if_neg (by simp [not_energized_of_waits hwaits]), not_powered_of_waits hwaits]
        rfl
      · rw [if_pos ⟨hen, hm⟩, (powered_iff _).2 (.inl hen)]
        rfl
  · rw [h.nodeState_of_ne hmn]

/-- In a calm state no turn changes what is energized or draining. -/
theorem State.Turn.calm_powered {n : NodeId} (h : s.Turn n t) (hs : s.calm) (m : NodeId) :
    (t.nodeState m).powered = (s.nodeState m).powered := by
  by_cases hmn : m = n
  · subst hmn
    cases h
    case stands => rfl
    case places was _ now => rw [now, not_powered_of_waits (placement_waits s m), was]
    case leaves moves unwanted _ _ _ => exact absurd (hs m unwanted) moves
  · rw [h.nodeState_of_ne hmn]

theorem State.Turns.unrisen_rails (h : s.Turns p t) : t.unrisen false = s.unrisen false :=
  h.keeps (P := fun u => u.unrisen false = s.unrisen false)
    (fun _ _ _ _ hturn hu => (unrisen_congr fun _ hm => hturn.rail_powered hm).trans hu) rfl

theorem State.Turns.unrisen_of_calm (h : s.Turns p t) (hs : s.calm) (gate : Bool) : t.unrisen gate = s.unrisen gate :=
  (h.keeps (P := fun u => u.calm ∧ u.unrisen gate = s.unrisen gate)
    (fun _ _ _ _ hturn hu => ⟨calm_turn hturn hu.1, (unrisen_congr fun m _ => hturn.calm_powered hu.1 m).trans hu.2⟩)
    ⟨hs, rfl⟩).2

end

/-! ### The measure -/

/-- The legs that a transition in flight can still end within the event. -/
def Platform.legs (p : Platform) : Nat :=
  if p.recycle = some .down then 1 else if p.recycle = some .hold then 0 else if p.via.isSome then 2 else 1

theorem legs_le (p : Platform) : p.legs ≤ 2 := by
  unfold Platform.legs
  split_ifs <;> omega

/-- The same for a still state: in SETTLED a repair may be due. -/
def State.legsLeft (s : State) : Nat :=
  if s.plat.phase = .settled then if s.allConform then 0 else 2 else s.plat.legs

theorem legsLeft_le (s : State) : s.legsLeft ≤ 2 := by
  unfold State.legsLeft
  split_ifs
  · omega
  · omega
  · exact legs_le _

theorem legsLeft_of_not_settled {s : State} (h : s.plat.phase ≠ .settled) : s.legsLeft = s.plat.legs := if_neg h

/-- What is left to do in an event. -/
def State.work (s : State) : Nat :=
  9 * (3 * s.queue.length + s.legsLeft) + (s.unrisen false).card + (s.unrisen true).card

theorem standstill_plat (k : Nat) (s : State) : (State.standstill k s).plat = s.plat :=
  sameButNodes_plat (standstill_sameButNodes k s)

theorem standstill_active (k : Nat) (s : State) : (State.standstill k s).active = s.active :=
  sameButNodes_active (standstill_sameButNodes k s)

theorem standstill_queue (k : Nat) (s : State) : (State.standstill k s).queue = s.queue := by
  obtain ⟨nodes, budget, ready, h⟩ := sameButNodes_exists (standstill_sameButNodes k s)
  rw [h]

/-- A move that takes up a leg and energizes nothing lowers the measure, whatever the nodes do next. -/
theorem work_lt_of_legs {s t : State} (k : Nat) (hpowered : ∀ n, (t.nodeState n).powered = (s.nodeState n).powered)
    (h : 3 * t.queue.length + (State.standstill k t).legsLeft < 3 * s.queue.length + s.legsLeft) :
    (State.standstill k t).work < s.work := by
  have hrails : (State.standstill k t).unrisen false = s.unrisen false :=
    (turns_standstill k t).unrisen_rails.trans (unrisen_congr fun n _ => hpowered n)
  have hgates : ((State.standstill k t).unrisen true).card ≤ 8 := card_unrisen_le _ true
  unfold State.work
  rw [standstill_queue, hrails]
  omega

theorem State.NodesKept.powered {s t : State} (h : s.NodesKept t) (n : NodeId) :
    (t.nodeState n).powered = (s.nodeState n).powered := by
  rcases h.state n with e | ⟨e, e'⟩
  · rw [e]
  · rw [e, e']
    rfl

/-- The same for a move into a transition. -/
theorem work_lt_of_transition {s t : State} (k : Nat) (hkept : s.NodesKept t) (hp : t.plat.phase ≠ .settled)
    (h : 3 * t.queue.length + t.plat.legs < 3 * s.queue.length + s.legsLeft) : (State.standstill k t).work < s.work := by
  refine work_lt_of_legs k hkept.powered ?_
  rwa [legsLeft_of_not_settled (by rwa [standstill_plat]), standstill_plat]

/-- The same for a move that leaves the nodes at a standstill and conforming in SETTLED. -/
theorem work_lt_of_settled {s t : State} (k : Nat) (hkept : s.NodesKept t) (hstill : t.still = true)
    (hp : t.plat.phase = .settled) (hconform : t.allConform = true)
    (h : 3 * t.queue.length < 3 * s.queue.length + s.legsLeft) : (State.standstill k t).work < s.work := by
  refine work_lt_of_legs k hkept.powered ?_
  rwa [standstill_of_still k hstill, State.legsLeft, if_pos hp, if_pos hconform]

/-! ### Settles -/

theorem settledAt_kept (s : State) (L : Level) : s.NodesKept (s.settledAt L) := nodesSettled_kept rfl rfl rfl

theorem viaSettledAt_kept (s : State) (L : Level) : s.NodesKept (s.viaSettledAt L) := nodesSettled_kept rfl rfl rfl

theorem settledAt_nodeState (s : State) (L : Level) (n : NodeId) : (s.settledAt L).nodeState n =
    if L = .deep ∧ s.nodeState n = .failed then .off else s.nodeState n := by
  have hnode : (s.settledAt L).node n = ({ s with nodes := s.nodesSettled L } : State).node n := rfl
  rw [nodeState_eq, hnode, State.nodesSettled, node_map]
  rfl

theorem excludes_of_settleDue {s : State} (h : s.settleDue) (n : NodeId) : s.plat.excludes n = false := by
  rw [← Bool.not_eq_true, excludes_iff]
  rintro ⟨hd | hh, -⟩
  · exact h.2.1 hd
  · exact h.2.2.1 hh

theorem memberOf_deep (r : NodeRecord) : r.memberOf .deep = false := by
  obtain ⟨-, -, hdeep⟩ := membershipNestsByLevel
  exact hdeep r

theorem settledAt_wanted (s : State) (L : Level) (n : NodeId) : (s.settledAt L).wanted n = true ↔
    (s.settledAt L).nodeState n ≠ .failed ∧ (s.record n).memberOf L = true := by
  rw [wanted_iff]
  refine and_congr_right fun _ => ⟨?_, fun hm => ⟨rfl, L, rfl, hm⟩⟩
  rintro ⟨-, L', hgoverning, hm⟩
  cases hgoverning
  exact hm

section

variable {s : State} {L : Level} (hdue : s.settleDue) (hv : s.plat.via = none) (hL : s.plat.target = some L)
include hdue hv hL

theorem wanted_of_settleDue (n : NodeId) :
    s.wanted n = true ↔ s.nodeState n ≠ .failed ∧ (s.record n).memberOf L = true := by
  rw [wanted_iff, governing_of_target hdue.1 hv, hL]
  simp [excludes_of_settleDue hdue]

theorem conforms_of_settleDue (n : NodeId) : s.conforms L n = true := by
  obtain ⟨hphase, -, -, L', hgoverning, hall⟩ := hdue
  rw [governing_of_target hphase hv, hL] at hgoverning
  cases hgoverning
  exact hall n

theorem settledAt_allConform : (s.settledAt L).allConform = true := by
  rw [allConform_of_settled rfl]
  intro n
  have hconforms := (conforms_iff s L n).1 (conforms_of_settleDue hdue hv hL n)
  refine (conforms_iff (s.settledAt L) L n).2 fun hused => ?_
  have hs := hconforms hused
  have hrecord : (s.settledAt L).record n = s.record n := rfl
  have hexcludes : (s.settledAt L).plat.excludes n = false := rfl
  rw [excludes_of_settleDue hdue] at hs
  rw [settledAt_nodeState, hrecord, hexcludes]
  by_cases hdeep : L = .deep ∧ s.nodeState n = .failed
  · rw [if_pos hdeep, hdeep.1, memberOf_deep]
    exact .inl rfl
  · rwa [if_neg hdeep]

/-- A settle leaves the nodes standing (R57, R58, R60). -/
theorem settledAt_still (hstill : s.still = true) : (s.settledAt L).still = true := by
  refine (still_iff _).2 fun n => ?_
  have hmove := (still_iff s).1 hstill n
  by_cases hcleared : L = .deep ∧ s.nodeState n = .failed
  · have hoff : (s.settledAt L).nodeState n = .off := by rw [settledAt_nodeState, if_pos hcleared]
    have hunwanted : (s.settledAt L).wanted n = false := by
      rw [← Bool.not_eq_true, settledAt_wanted, hcleared.1, memberOf_deep]
      simp
    rw [nodeMove_of_unwanted hunwanted, hoff]
    exact ⟨rfl, nofun⟩
  have hstate : (s.settledAt L).nodeState n = s.nodeState n := by rw [settledAt_nodeState, if_neg hcleared]
  have hwanted : (s.settledAt L).wanted n = s.wanted n := by
    rw [Bool.eq_iff_iff, settledAt_wanted, wanted_of_settleDue hdue hv hL, hstate]
  cases hw : s.wanted n
  · have hheld : (s.settledAt L).heldUp n = s.heldUp n := by
      rw [Bool.eq_iff_iff, heldUp_iff_powered, heldUp_iff_powered]
      exact exists_congr fun m => by rw [(settledAt_kept s L).powered m]; rfl
    rw [nodeMove_of_unwanted hw] at hmove
    rw [nodeMove_of_unwanted (hwanted.trans hw), hstate, hheld]
    exact hmove
  · have hlevel : L ≠ .deep := fun e => by
      have hmember := ((wanted_of_settleDue hdue hv hL n).1 hw).2
      rw [e, memberOf_deep] at hmember
      cases hmember
    have hplacement : (s.settledAt L).placement n = s.placement n :=
      placement_congr rfl fun q _ => by rw [settledAt_nodeState, if_neg fun h => hlevel h.1]
    rw [nodeMove_of_wanted hw] at hmove
    rwa [nodeMove_of_wanted (hwanted.trans hw), hstate, hplacement]

end

/-! ### Grants -/

theorem grant_powered_self (s : State) (n : NodeId) : ((s.grant n).nodeState n).powered = true := by
  have hrising : (s.grantBegun n).nodeState n = .rising := grantBegun_nodeState s n
  have hne : (s.grantBegun n).nodeState n ≠ .settling := by rw [hrising]; nofun
  rw [grant_eq]
  split
  · by_cases hhold : ((s.grantBegun n).record n).settleHold = 0
    · rw [enterSettling_eq_of_no_hold hne hhold, nodeState_eq, withNode_node_self]
      rfl
    · rw [enterSettling_eq_of_hold hne hhold, nodeState_eq, withNode_node_self]
      rfl
  · rw [hrising]
    rfl

theorem grant_node_of_ne (s : State) {n m : NodeId} (h : m ≠ n) : (s.grant n).node m = s.node m := by
  have hbegun : (s.grantBegun n).node m = s.node m := withNode_node_of_ne s _ _ _ h
  have hne : (s.grantBegun n).nodeState n ≠ .settling := by rw [grantBegun_nodeState]; nofun
  rw [grant_eq]
  split
  · by_cases hhold : ((s.grantBegun n).record n).settleHold = 0
    · rw [enterSettling_eq_of_no_hold hne hhold, withNode_node_of_ne _ _ _ _ h, hbegun]
    · rw [enterSettling_eq_of_hold hne hhold, withNode_node_of_ne _ _ _ _ h, hbegun]
  · exact hbegun

theorem unrisen_grant_ne (s : State) {n : NodeId} {gate : Bool} (h : isGate n ≠ gate) :
    (s.grant n).unrisen gate = s.unrisen gate :=
  unrisen_congr fun m hm => by
    have hne : m ≠ n := fun e => h (e ▸ hm)
    rw [nodeState_eq, grant_node_of_ne s hne]
    rfl

theorem unrisen_grant_self {s : State} {n : NodeId} (hready : s.nodeState n = .ready) :
    ((s.grant n).unrisen (isGate n)).card + 1 = (s.unrisen (isGate n)).card := by
  have hmember : n ∈ s.unrisen (isGate n) := by
    rw [mem_unrisen, hready]
    exact ⟨rfl, rfl⟩
  have herase : (s.grant n).unrisen (isGate n) = (s.unrisen (isGate n)).erase n := by
    ext m
    rw [Finset.mem_erase, mem_unrisen, mem_unrisen]
    by_cases hmn : m = n
    · subst hmn
      simp [grant_powered_self]
    · rw [nodeState_eq, grant_node_of_ne s hmn]
      simp [hmn, nodeState_eq]
  rw [herase]
  exact Finset.card_erase_add_one hmember

/-- A grant makes no unwanted node move: what holds a node up only grows. -/
theorem grant_calm {s : State} {n : NodeId} (hstill : s.still = true) (hready : s.nodeState n = .ready) : (s.grant n).calm := by
  have hsame := grant_sameButNodes s n
  have hactive := sameButNodes_active hsame
  have hpowered := grant_powered_self s n
  intro m hm
  have hmn : m ≠ n := fun e => by
    subst e
    have hwanted := (ready_of_still hstill hready).1
    have hkeeps : (s.grant m).wanted m = s.wanted m := wanted_congr (sameButNodes_plat hsame) hactive
      ⟨fun e => by simp [e, NodeState.powered, NodeState.energized] at hpowered, fun e => absurd (hready.symm.trans e) nofun⟩
    rw [hkeeps, hwanted] at hm
    cases hm
  have hstate : (s.grant n).nodeState m = s.nodeState m := congrArg NodeLive.state (grant_node_of_ne s hmn)
  have hwanted : (s.grant n).wanted m = s.wanted m := wanted_congr (sameButNodes_plat hsame) hactive (by rw [hstate])
  obtain ⟨hwaits, henergized⟩ := (nodeMove_of_unwanted (hwanted.symm.trans hm)).1 ((still_iff s).1 hstill m)
  rw [nodeMove_of_unwanted hm, hstate]
  refine ⟨hwaits, fun he => ⟨(henergized he).1, ?_⟩⟩
  obtain ⟨k, hlists, hk⟩ := (heldUp_iff_powered s m).1 (henergized he).2
  refine (heldUp_iff_powered _ m).2 ⟨k, hactive ▸ hlists, ?_⟩
  by_cases hkn : k = n
  · exact hkn ▸ hpowered
  · have hkstate : (s.grant n).nodeState k = s.nodeState k := congrArg NodeLive.state (grant_node_of_ne s hkn)
    rwa [hkstate]

theorem work_lt_of_grant {s : State} (k : Nat) {n : NodeId} (hstill : s.still = true) (hready : s.nodeState n = .ready)
    (hp : s.plat.phase ≠ .settled) : (State.standstill k (s.grant n)).work < s.work := by
  have hplat : (State.standstill k (s.grant n)).plat = s.plat :=
    (standstill_plat k _).trans (sameButNodes_plat (grant_sameButNodes s n))
  have hqueue : (State.standstill k (s.grant n)).queue = s.queue := by
    obtain ⟨nodes, budget, ready, h⟩ := sameButNodes_exists (grant_sameButNodes s n)
    rw [standstill_queue, h]
  have hlegs : (State.standstill k (s.grant n)).legsLeft = s.legsLeft := by
    rw [legsLeft_of_not_settled hp, legsLeft_of_not_settled (by rwa [hplat]), hplat]
  have hunrisen : ∀ gate, (State.standstill k (s.grant n)).unrisen gate = (s.grant n).unrisen gate :=
    (turns_standstill k _).unrisen_of_calm (grant_calm hstill hready)
  have hself := unrisen_grant_self hready
  unfold State.work
  rw [hqueue, hlegs, hunrisen, hunrisen]
  cases hgate : isGate n
  · rw [hgate] at hself
    rw [unrisen_grant_ne s (gate := true) (by rw [hgate]; nofun)]
    omega
  · rw [hgate] at hself
    rw [unrisen_grant_ne s (gate := false) (by rw [hgate]; nofun)]
    omega

end Sys2Proof.Machine

/-! # Every event ends at rest

Each move of the reaction lowers the measure, so the reaction ends within its bound, and the state it leaves is quiet (R45, R57, R64, R71, R72, R83, R174, log 22). -/

namespace Sys2Proof.Machine

/-! ### Every move lowers the measure -/

/-- What the reaction's bounds rest on: no cycle, the ready queue, and the platform record. -/
structure State.Sound (s : State) : Prop where
  acyclic : acyclic s.active
  ready : s.readyLaw
  plat : s.plat.law

theorem exists_forced {s : State} (h : s.forcedDue) :
    ∃ r, s.nextRequest = some (.handForced r) := by
  obtain ⟨ht, r, hr, hk⟩ := h
  obtain ⟨q, hq⟩ := Option.isSome_iff_exists.1
    (List.find?_isSome.2 ⟨r, hr, by simpa using hk⟩ : (s.queue.find? fun q => q.kind == .forced).isSome = true)
  exact ⟨q, nextRequest_of_forced ht hq⟩

theorem not_allConform_of_repair {s : State} (h : s.nextRequest = some .repair) : s.allConform = false := by
  by_cases hf : s.forcedDue
  · obtain ⟨q, hq⟩ := exists_forced hf
    rw [hq] at h
    cases h
  · rw [nextRequest_of_not_forced hf] at h
    split at h
    · split at h
      · cases hq : s.queue.head? <;> rw [hq] at h <;> cases h
      · next hc => simpa using hc
    · cases h

theorem allConform_of_takeHead {s : State} {r : Request} (h : s.nextRequest = some (.takeHead r)) : s.allConform = true := by
  by_cases hf : s.forcedDue
  · obtain ⟨q, hq⟩ := exists_forced hf
    rw [hq] at h
    cases h
  · rw [nextRequest_of_not_forced hf] at h
    split at h
    · split at h
      · assumption
      · cases h
    · cases h

theorem legsLeft_of_inFlight {s : State} (h : s.plat.phase.inFlight = true) : s.legsLeft = s.plat.legs :=
  legsLeft_of_not_settled fun e => by rw [e] at h; cases h

theorem legs_of_settleDue {s : State} (h : s.settleDue) : s.legsLeft = if s.plat.via.isSome then 2 else 1 := by
  obtain ⟨hphase, hdown, hhold, -⟩ := h
  rw [legsLeft_of_inFlight hphase, Platform.legs, if_neg hdown, if_neg hhold]

theorem work_lt_of_startHold {s : State} (k : Nat) (hplat : s.plat.law) (h : s.downOver) :
    (State.standstill k s.heldAt).work < s.work := by
  have hphase : s.plat.phase = .recycling := by
    obtain ⟨-, hrecycle, -⟩ := hplat
    rw [h.1] at hrecycle
    simpa using hrecycle
  refine work_lt_of_transition k (nodesKept_of_nodes rfl rfl rfl) (fun e => ?_) ?_
  · rw [show s.heldAt.plat.phase = s.plat.phase from rfl, hphase] at e
    cases e
  · have hbefore : s.plat.legs = 1 := if_pos h.1
    have hafter : s.heldAt.plat.legs = 0 := rfl
    rw [legsLeft_of_inFlight (by rw [hphase]; rfl), hbefore, hafter]
    exact Nat.lt_succ_self _

theorem work_lt_of_viaSettle {s : State} (k : Nat) (h : s.settleDue) {v : Level} (hv : s.plat.via = some v) :
    (State.standstill k (s.viaSettledAt v)).work < s.work := by
  refine work_lt_of_transition k (viaSettledAt_kept s v) (fun e => ?_) ?_
  · revert e
    show (if s.plat.recycle ≠ none then Phase.recycling
      else if (s.plat.target.getD v).rank < v.rank then .falling else .rising) ≠ .settled
    split_ifs <;> nofun
  · rw [legs_of_settleDue h, hv]
    have hlegs : (s.viaSettledAt v).plat.legs = 1 := by
      have hdown : (s.viaSettledAt v).plat.recycle ≠ some .down := h.2.1
      have hhold : (s.viaSettledAt v).plat.recycle ≠ some .hold := h.2.2.1
      rw [Platform.legs, if_neg hdown, if_neg hhold]
      rfl
    rw [hlegs]
    exact Nat.lt_succ_self _

theorem work_lt_of_settle {s : State} (k : Nat) (hstill : s.still = true) (h : s.settleDue) (hv : s.plat.via = none) {L : Level}
    (hL : s.plat.target = some L) : (State.standstill k (s.settledAt L)).work < s.work := by
  refine work_lt_of_settled k (settledAt_kept s L) (settledAt_still h hv hL hstill) rfl (settledAt_allConform h hv hL) ?_
  rw [legs_of_settleDue h, hv]
  exact Nat.lt_succ_self _

theorem work_lt_of_handForced {s : State} (k : Nat) {r : Request}
    (hfind : s.queue.find? (fun q => q.kind == .forced) = some r) :
    (State.standstill k (State.overtakenBy { s with queue := s.queue.filter fun q => q.source != r.source } r)).work <
      s.work := by
  have hlost : (s.queue.filter fun q => q.source != r.source).length < s.queue.length :=
    List.length_filter_lt_length_iff_exists.2 ⟨r, List.mem_of_find?_eq_some hfind, by simp⟩
  have hagain := List.length_filter_le (fun q => q.source != r.source) (s.queue.filter fun q => q.source != r.source)
  have hlegs := legs_le (State.overtakenBy { s with queue := s.queue.filter fun q => q.source != r.source } r).plat
  refine work_lt_of_transition k (nodesKept_of_nodes rfl rfl rfl) (startedFor_phase _ r).1 ?_
  have hqueue : (State.overtakenBy { s with queue := s.queue.filter fun q => q.source != r.source } r).queue =
      (s.queue.filter fun q => q.source != r.source).filter fun q => q.source != r.source := rfl
  rw [hqueue]
  omega

theorem work_lt_of_repair {s : State} (k : Nat) (hp : s.plat.phase = .settled) (h : s.allConform = false) :
    (State.standstill k s.repairing).work < s.work := by
  refine work_lt_of_transition k (nodesKept_of_nodes rfl rfl rfl) nofun ?_
  rw [State.legsLeft, if_pos hp, h]
  exact Nat.lt_succ_self _

theorem work_lt_of_takeHead {s : State} (k : Nat) (hstill : s.still = true) (hp : s.plat.phase = .settled)
    (h : s.allConform = true) {r : Request} {rest : List Request} (hq : s.queue = r :: rest) :
    (State.standstill k (State.takenInSettled { s with queue := rest } r)).work < s.work := by
  have hlength : s.queue.length = rest.length + 1 := by rw [hq, List.length_cons]
  unfold State.takenInSettled
  split
  · refine work_lt_of_settled k (nodesKept_of_nodes rfl rfl rfl) hstill hp h ?_
    have hqueue : 3 * rest.length < 3 * s.queue.length + s.legsLeft := by omega
    exact hqueue
  · have hlegs := legs_le (State.startedFor { s with queue := rest } r).plat
    refine work_lt_of_transition k (nodesKept_of_nodes rfl rfl rfl) (startedFor_phase _ r).1 ?_
    have hqueue : (State.startedFor { s with queue := rest } r).queue = rest := rfl
    rw [hqueue]
    omega

theorem ready_of_headFits {s : State} (hready : s.readyLaw) {n : NodeId} (h : s.headFits n) : s.nodeState n = .ready := by
  obtain ⟨x, hx, rfl⟩ := mem_of_headFits h
  exact (hready.2.2 x.node).1 (List.mem_map.2 ⟨x, hx, rfl⟩)

/-- Every move lowers the measure of the standstill that follows it. -/
theorem work_lt_of_move {s : State} (k : Nat) (hs : s.Sound) {m : Move} (hm : s.nextMove = some m) :
    (State.standstill k (s.applyMove m)).work < s.work := by
  obtain ⟨-, hstill, hcases⟩ := nextMove_cases hm
  rcases hcases with ⟨rfl, hd⟩ | hsettle | hreq | ⟨-, hreq, n, hfits, rfl⟩
  · exact work_lt_of_startHold k hs.plat hd
  · obtain ⟨hdue, ⟨v, hv, rfl⟩ | ⟨hv, L, hL, rfl⟩⟩ := settles_cases hsettle
    · have heq : s.applyMove (.viaSettle v) = s.viaSettledAt v := viaSettle_eq s v
      exact heq ▸ work_lt_of_viaSettle k hdue hv
    · have heq : s.applyMove (.settle L) = s.settledAt L := settle_eq s L
      exact heq ▸ work_lt_of_settle k hstill hdue hv hL
  · obtain ⟨r, hfind, -, rfl⟩ | ⟨hp, rfl⟩ | ⟨hp, r, rest, hq, rfl⟩ := nextRequest_cases hreq
    · have heq : s.applyMove (.handForced r) =
          State.overtakenBy { s with queue := s.queue.filter fun q => q.source != r.source } r :=
        takeForced_eq (forced_of_find hfind)
      exact heq ▸ work_lt_of_handForced k hfind
    · have heq : s.applyMove .repair = s.repairing := startRepair_eq s
      exact heq ▸ work_lt_of_repair k hp (not_allConform_of_repair hreq)
    · have heq : s.applyMove (.takeHead r) = State.takenInSettled { s with queue := rest } r := by
        rw [← take_eq_takenInSettled (s := { s with queue := rest }) r hp, State.applyMove, hq]
        rfl
      exact heq ▸ work_lt_of_takeHead k hstill hp (allConform_of_takeHead hreq) hq
  · have hready := ready_of_headFits hs.ready hfits
    exact work_lt_of_grant k hstill hready (not_settled_of_ready hstill hreq hready)

/-! ### The reaction ends -/

theorem State.Sound.reach {s t : State} (hs : s.Sound) (h : Reach s t) (hactive : t.active = s.active) : t.Sound where
  acyclic := hactive ▸ hs.acyclic
  ready := h.keeps (fun _ _ => Event.readyLaw) hs.ready
  plat := h.keeps (P := fun u => u.plat.law) (fun _ _ => Event.platLaw) hs.plat

theorem State.Sound.standstill {s : State} (hs : s.Sound) (k : Nat) : (State.standstill k s).Sound :=
  hs.reach (reach_standstill k s) (standstill_active k s)

theorem State.Sound.applyMove {s : State} (hs : s.Sound) {m : Move} (hm : s.nextMove = some m) : (s.applyMove m).Sound :=
  hs.reach (reach_applyMove hm) (congrArg State.active (applyMove_outside s m) :)

theorem react_atRest (k : Nat) {s : State} (hs : s.Sound) (h : (State.standstill Config.roundFuel s).work < k) :
    (State.react k s).atRest = true := by
  induction k generalizing s with
  | zero => omega
  | succ k ih =>
    have hstill := standstill_still hs.acyclic
    have hsound := hs.standstill Config.roundFuel
    unfold State.react
    dsimp only
    split
    · next hm => exact (atRest_iff _).2 ⟨hstill, hm⟩
    · next m hm =>
      have hless := work_lt_of_move Config.roundFuel hsound hm
      exact ih (hsound.applyMove hm) (by omega)

/-- The sources, of which each has at most one request in the queue (R79). -/
theorem queue_length_le {s : State} (h : s.queueLaw) : s.queue.length ≤ 7 := by
  have hsubset : s.queue.map Request.source ⊆ [.hport, .mport, .button, .wake, .watch, .resume, .idle] := fun x _ => by
    cases x <;> simp
  have hperm := (List.subperm_of_subset h hsubset).length_le
  simpa using hperm

theorem work_lt_bound {s : State} (h : s.queueLaw) : s.work < Config.moveFuel := by
  have hqueue := queue_length_le h
  have hlegs := legsLeft_le s
  have hrails : (s.unrisen false).card ≤ 24 := card_unrisen_le s false
  have hgates : (s.unrisen true).card ≤ 8 := card_unrisen_le s true
  have hfuel : Config.moveFuel = 400 := rfl
  unfold State.work
  omega

theorem abandonFrame_quiet {s : State} (h : s.atRest = true) : s.abandonFrame.quiet := by
  unfold State.abandonFrame
  split
  · exact ⟨h, nofun⟩
  · next hframe =>
    refine ⟨h, fun htaken => ?_⟩
    by_contra hlive
    exact hframe ⟨htaken, by simpa using hlive⟩

/-- An event ends quiet. -/
theorem finish_quiet {s : State} (hs : s.Sound) (hq : s.queueLaw) : s.finish.quiet := by
  have hqueue : (State.standstill Config.roundFuel s).queueLaw := by
    unfold State.queueLaw
    rw [standstill_queue]
    exact hq
  exact abandonFrame_quiet (react_atRest Config.moveFuel hs (work_lt_bound hqueue))

end Sys2Proof.Machine

/-! # Rest

What rest means in SETTLED and outside HALTED, and that every step of the running part ends at rest (R71, R79, log 22). -/

namespace Sys2Proof.Machine

/-! ### At rest -/

theorem nextRequest_of_atRest {s : State} (h : s.atRest = true) (hp : s.plat.phase ≠ .halted) : s.nextRequest = none := by
  obtain ⟨hstill, hmove⟩ := (atRest_iff s).1 h
  rcases (nextMove_eq_none_iff s).1 hmove with (hhalted | hmoves) | ⟨-, -, hrequest, -⟩
  · exact absurd hhalted hp
  · rw [hstill] at hmoves
    cases hmoves
  · exact hrequest

theorem conforms_of_atRest {s : State} (h : s.atRest = true) (hp : s.plat.phase = .settled) :
    (∀ n, s.conforms s.plat.settled n = true) ∧ s.queue = [] := by
  have hrequest := nextRequest_of_atRest h (by rw [hp]; nofun)
  obtain ⟨hall, hqueue⟩ := ((nextRequest_eq_none_iff s).1 hrequest).2 hp
  exact ⟨(allConform_of_settled hp).1 hall, hqueue⟩

theorem trip_of_atRest {s : State} (h : s.atRest = true) (hp : s.plat.phase ≠ .halted) {r : Request} (hr : r ∈ s.queue)
    (hk : r.kind = .forced) : s.plat.trip = true := by
  by_contra htrip
  exact ((nextRequest_eq_none_iff s).1 (nextRequest_of_atRest h hp)).1 (by simpa using htrip) r hr hk

/-! ### One idle millisecond -/

theorem tickTimers_nodeState (s : State) (n : NodeId) : s.tickTimers.nodeState n = s.nodeState n := by
  have hnode : s.tickTimers.node n = ({ s with nodes := s.nodes.map NodeLive.tick } : State).node n := rfl
  rw [nodeState_eq, hnode, node_map]
  rfl

section

variable (s : State)

theorem tickTimers_wanted (n : NodeId) : s.tickTimers.wanted n = s.wanted n := by
  unfold State.wanted
  rw [tickTimers_nodeState]
  rfl

theorem tickTimers_nodeMove (n : NodeId) : s.tickTimers.nodeMove n = s.nodeMove n := by
  have hplacement : s.tickTimers.placement n = s.placement n := placement_congr rfl fun q _ => tickTimers_nodeState s q
  have hheld : s.tickTimers.heldUp n = s.heldUp n := by
    rw [Bool.eq_iff_iff, heldUp_iff_powered, heldUp_iff_powered]
    exact exists_congr fun m => by rw [tickTimers_nodeState]; rfl
  unfold State.nodeMove
  rw [tickTimers_nodeState, tickTimers_wanted, hplacement, hheld]

theorem tickTimers_still : s.tickTimers.still = s.still := by
  rw [Bool.eq_iff_iff, still_iff, still_iff]
  exact forall_congr' fun n => by rw [tickTimers_nodeMove]

theorem tickTimers_conforms (L : Level) (n : NodeId) : s.tickTimers.conforms L n = s.conforms L n := by
  unfold State.conforms
  rw [tickTimers_nodeState]
  rfl

theorem tickTimers_allConform : s.tickTimers.allConform = s.allConform := by
  rw [Bool.eq_iff_iff, allConform_iff, allConform_iff]
  exact exists_congr fun L => and_congr_right fun _ => forall_congr' fun n => by rw [tickTimers_conforms]

theorem tickTimers_nextMove : s.tickTimers.nextMove = s.nextMove := by
  have hlegs : s.tickTimers.downLegEnds = s.downLegEnds := by
    unfold State.downLegEnds
    exact congrArg (s.plat.recycle == some .down && s.plat.exclusion.all ·) (funext fun n => by rw [tickTimers_nodeState])
  have hsettles : s.tickTimers.settles = s.settles := by
    unfold State.settles
    rw [tickTimers_allConform]
    rfl
  have hrequest : s.tickTimers.nextRequest = s.nextRequest := by
    unfold State.nextRequest
    rw [tickTimers_allConform]
    rfl
  have hgrant : s.tickTimers.grantable = s.grantable := rfl
  unfold State.nextMove
  rw [tickTimers_still, hlegs, hsettles, hrequest, hgrant]
  rfl

theorem tickTimers_hostLive : s.tickTimers.hostLive = s.hostLive := by
  rw [Bool.eq_iff_iff, hostLive_iff, hostLive_iff]
  exact and_congr_right fun _ => forall_congr' fun n => by rw [tickTimers_nodeState]; rfl

end

theorem tickTimers_quiet {s : State} (h : s.quiet) : s.tickTimers.quiet := by
  obtain ⟨hrest, hframe⟩ := h
  refine ⟨?_, fun htaken => (tickTimers_hostLive s).trans (hframe htaken)⟩
  rw [atRest_iff] at hrest ⊢
  rwa [tickTimers_still, tickTimers_nextMove]

/-- Only the running part's timers count, and no rule of the reaction reads a timer (log 3). -/
theorem tick_quiet {s : State} (h : s.power = .running → s.quiet) (hp : s.tick.power = .running) : s.tick.quiet := by
  unfold State.tick at hp ⊢
  split at hp
  · next hoff => cases hoff.symm.trans hp
  · next hreset => cases hreset.symm.trans hp
  · next hload =>
    have hne : Power.loading = Power.running := hload.symm.trans hp
    cases hne
  · next hrun => exact tickTimers_quiet (h hrun)

/-! ### Every step -/

theorem acyclic_of_valid {c : ConfigSet} (h : c.valid = true) : acyclic c := fun n hcycle =>
  (failure_eq_none_iff c).1 (Option.isNone_iff_eq_none.1 h) ⟨.node, n.val, .cycle⟩ ⟨n, rfl, hcycle⟩

/-- The laws that the reaction's bounds rest on hold wherever an event has come to. -/
theorem finish_quiet_of_acts {s u : State} (hs : s.lawful) (h : Acts s u) : u.finish.quiet := by
  obtain ⟨hready, -, -, -, -, hplatform, hqueue, -, -, -, -, -, hconfig, -, -, -⟩ := hs
  have hvalid := h.keeps (fun _ _ => Act.configLaw) hconfig
  have hplat := h.keeps (fun _ _ => Act.platformLaw) hplatform
  exact finish_quiet ⟨acyclic_of_valid hvalid.1, h.keeps (fun _ _ => Act.readyLaw) hready, hplat.1⟩
    (h.keeps (fun _ _ => Act.queueLaw) hqueue)

theorem quiet_of_ends {s t : State} (hs : s.lawful) (hq : s.power = .running → s.quiet) (h : Ends s t)
    (hp : t.power = .running) : t.quiet := by
  cases h
  case reacts u hu => exact finish_quiet_of_acts hs hu
  case stops hstopped => exact absurd hp hstopped
  case stands hpower hkeeps => exact hkeeps (hq (hpower ▸ hp))

/-- Settles O6: rest by the moves that it rules out; a step ends in the reaction, whose measure stays below its bound, or as quiet as it began. -/
theorem atRestSettledMeansConforming : Obligations.AtRestSettledMeansConforming := by
  refine ⟨fun s h hp => ⟨conforms_of_atRest h, fun r hr hk => trip_of_atRest h hp hr hk⟩, fun s t hs hq hstep hp => ?_⟩
  unfold step at hstep
  split at hstep
  · next c rest _ => exact quiet_of_ends (s := s.withPending rest) hs hq (ends_exec hstep) hp
  · cases hstep
    exact tick_quiet hq hp

end Sys2Proof.Machine
